-- ==== Sys2Proof/Word.lean ====
section
/-! DEFINITION. The plain data types of the links, tables and lines of the 3160 (spec chapters 10 and 12):
bytes, uptime values, index types, frames and line levels. -/

namespace Sys2Proof

/-- One byte of a frame or of Table Memory (R185). -/
abbrev Byte := BitVec 8

/-- A value of the uptime counter: unsigned 32-bit milliseconds (R179). -/
abbrev Uptime := BitVec 32

/-- A tower index 0..11 (00_scope, Terms). -/
abbrev Tower := Fin 12

/-- An element index 0..39 (R13). -/
abbrev Elem := Fin 40

/-- A pattern id 0..3 (00_scope, Terms). -/
abbrev Pat := Fin 4

/-- The two serial ports (chapter 10). -/
inductive Port where
  | field
  | station
  deriving DecidableEq, Repr

/-- A valid frame: destination, source, kind code and payload (R186). The length field and the CRC of a valid
frame are functions of these (R165, R187) and are not stored. -/
structure Frame where
  dst : Byte
  src : Byte
  kind : Byte
  payload : List Byte
  deriving DecidableEq, Repr

/-- The levels of the input lines (R183, R147, R4). PANEL_GO and PANEL_STOP act by their rising edges alone, and
each rising edge is a command, so their levels carry no state. -/
structure Lines where
  /-- LOCAL asserted. -/
  localOn : Bool
  /-- LICENCE_KEY asserted, as last sampled. -/
  licenceKey : Bool
  /-- TX_TRIP asserted. -/
  txTrip : Bool
  /-- PANEL_SEL, as last sampled. -/
  panelSel : Pat
  deriving DecidableEq, Repr

end Sys2Proof
end

