-- ==== Sys2Proof/Syntax.lean ====
section
/-! DEFINITION. The commands of the 3160: one constructor for each row of spec/opcode_table.json, with the
operands the spec gives the step (spec chapters 1 to 12, 95_what_each_step_holds.md). -/

namespace Sys2Proof

/-- A step of the part, as the table of operations and events lists them. A frame's operands are its envelope
fields that the row leaves open and its payload; a management request's are its source node, its tag and its
arguments (R190); a line event's are the levels sampled with it. -/
inductive Instr where
  /-- COLD_RESET (R8). `held`: the cause is an assertion of RESET_N, which then holds the part in reset until
  RESET_N_RELEASE. Otherwise the cause is power-on with RESET_N released, and the reset ends in the event. -/
  | coldReset (held : Bool)
  /-- BLOCK_TIMER_EXPIRY (R20). -/
  | blockTimerExpiry
  /-- SAMPLE_ARRIVAL (R26): a SAMPLE frame for node 0 taken at the Field Port. -/
  | sampleArrival (src : Byte) (payload : List Byte)
  /-- STATE_FRAME (R98): a STATE frame for node 0 taken at the Field Port. -/
  | stateFrame (src : Byte) (payload : List Byte)
  /-- FIELD_FRAME_RELAY (R166): a field frame for nodes 24 to 30, other than POWER. -/
  | fieldFrameRelay (f : Frame)
  /-- FIELD_FRAME_DISCARD (R166): a field frame that is POWER, for node 0 of another kind, or for a field node. -/
  | fieldFrameDiscard (f : Frame)
  /-- FRAME_ENVELOPE_FAIL (R165): the received bytes of a frame that fails the envelope checks. -/
  | frameEnvelopeFail (port : Port) (bytes : List Byte)
  /-- READ_BLOCK (R1). -/
  | readBlock (src tag n : Byte)
  /-- WRITE_BLOCK (R2). `key`: LICENCE_KEY asserted when the request is taken. -/
  | writeBlock (src tag n : Byte) (key : Bool) (data : List Byte)
  /-- LICENCE_WRITE_COMPLETE (R4). -/
  | licenceWriteComplete
  /-- COMMIT (R18). -/
  | commit (src tag : Byte)
  /-- CHANGE (R74) naming pattern `p`, 0..255. -/
  | change (src tag p : Byte)
  /-- STOP (R74). -/
  | stop (src tag : Byte)
  /-- ABORT (R91). -/
  | abort (src tag : Byte)
  /-- RECOVER (R94). -/
  | recover (src tag : Byte)
  /-- READ_STATUS (R177). `key`: LICENCE_KEY asserted when the request is taken. -/
  | readStatus (src tag : Byte) (key : Bool)
  /-- READ_READINGS (R176). -/
  | readReadings (src tag : Byte)
  /-- READ_FAULTS (R176) from index `start`. -/
  | readFaults (src tag start : Byte)
  /-- CLEAR_FAULTS (R161). -/
  | clearFaults (src tag : Byte)
  /-- RESET (R178). -/
  | reset (src tag : Byte)
  /-- MGMT_UNKNOWN (R175): a MGMT_REQ with an unknown code or a wrong length. -/
  | mgmtUnknown (src : Byte) (payload : List Byte)
  /-- TIME (R180): a TIME frame for node 0 taken at the Station Port. -/
  | time (src : Byte) (payload : List Byte)
  /-- TX_STATE (R146): a TX_STATE frame from node 24 taken at the Station Port. -/
  | txState (dst : Byte) (payload : List Byte)
  /-- STATION_ELEM_CMD_CONTACTOR (R110): a station ELEM_CMD that names a contactor. -/
  | stationElemCmdContactor (dst src : Byte) (payload : List Byte)
  /-- STATION_ELEM_CMD_ACTUATOR (R134): a station ELEM_CMD that names an actuator. -/
  | stationElemCmdActuator (dst src : Byte) (payload : List Byte)
  /-- BROADCAST_ELEM_CMD (R169): a station ELEM_CMD for node 31. -/
  | broadcastElemCmd (src : Byte) (payload : List Byte)
  /-- FIELD_BOUND_FORWARD (R169): a station frame for field nodes that names no known element. -/
  | fieldBoundForward (f : Frame)
  /-- STATION_POWER (R148): a station POWER frame for node 24. -/
  | stationPower (src : Byte) (payload : List Byte)
  /-- STATION_FRAME_RELAY (R168): a station frame for nodes 24 to 30, other than POWER to 24. -/
  | stationFrameRelay (f : Frame)
  /-- STATION_FRAME_DISCARD (R168): a station frame for node 0 that is not MGMT_REQ or TIME. -/
  | stationFrameDiscard (f : Frame)
  /-- TX_TRIP_ASSERT (R147). -/
  | txTripAssert
  /-- TX_TRIP_RELEASE (R147). -/
  | txTripRelease
  /-- LOCAL_ASSERT (R183). -/
  | localAssert
  /-- LOCAL_RELEASE (R182). -/
  | localRelease
  /-- PANEL_GO (R183): a rising edge. `sel`: PANEL_SEL at the edge. -/
  | panelGo (sel : Pat)
  /-- PANEL_STOP (R183): a rising edge. -/
  | panelStop
  /-- SILENCE_DEADLINE (R100) of element `e`. -/
  | silenceDeadline (e : Elem)
  /-- COMMAND_DEADLINE (R105) of the command in flight for element `e`. -/
  | commandDeadline (e : Elem)
  /-- DWELL_END (R115). -/
  | dwellEnd
  /-- PHASE_DEADLINE (R80). -/
  | phaseDeadline
  /-- SETTLE_DEADLINE (R86). -/
  | settleDeadline
  /-- RAMP_SEND (R140). -/
  | rampSend
  /-- RAMP_DEADLINE (R143). -/
  | rampDeadline
  /-- LINK_DEADLINE (R164) of a port. -/
  | linkDeadline (port : Port)
  /-- CLOCK_SECOND (R180). -/
  | clockSecond
  /-- SCHEDULE_EVALUATION (R181). -/
  | scheduleEvaluation
  /-- TRANSMISSION_END (R172) at a port. -/
  | transmissionEnd (port : Port)
  /-- RESET_N_RELEASE (R183). `levels`: the input lines' levels at the end of the reset. -/
  | resetNRelease (levels : Lines)
  deriving DecidableEq, Repr

end Sys2Proof
end

