-- ==== Sys2Proof/Decode.lean ====
section
/-! DEFINITION. The frame envelope (R165, R186, R187) and `decodeTableWord`. No row of spec/opcode_table.json
gives bits, so no word spells a command. -/

namespace Sys2Proof

/-- R187: the register stepped eight times, most significant bit first, with polynomial 1021 hex. -/
def crcShift : Nat → BitVec 16 → BitVec 16
  | 0, r => r
  | k + 1, r => crcShift k (if r.msb then (r <<< 1) ^^^ 0x1021#16 else r <<< 1)

/-- R187: one byte is combined into the register's high byte, and the register is stepped eight times. -/
def crcByte (r : BitVec 16) (b : Byte) : BitVec 16 :=
  crcShift 8 (r ^^^ (b.zeroExtend 16 <<< 8))

/-- R187: the CRC over a header and payload, from FFFF hex, not inverted. -/
def crc16 (bytes : List Byte) : BitVec 16 := bytes.foldl crcByte 0xFFFF#16

/-- R186: the header and payload bytes of a frame, in the order sent. -/
def Frame.body (f : Frame) : List Byte :=
  [f.dst, f.src, f.kind, BitVec.ofNat 8 f.payload.length] ++ f.payload

/-- R186, R187: the bytes of a frame on the wire, its CRC high byte first. -/
def Frame.wire (f : Frame) : List Byte :=
  f.body ++ [((crc16 f.body) >>> 8).truncate 8, (crc16 f.body).truncate 8]

/-- R165: the frame that received bytes spell, where they pass the three envelope checks. -/
def frameOfBytes (bytes : List Byte) : Option Frame :=
  match bytes with
  | dst :: src :: kind :: len :: rest =>
    if rest.length < 2 then none
    else
      let payload := rest.take (rest.length - 2)
      let f : Frame := { dst := dst, src := src, kind := kind, payload := payload }
      let field := rest.drop (rest.length - 2)
      if len.toNat ≤ 200 ∧ len.toNat = payload.length ∧
          field = [((crc16 f.body) >>> 8).truncate 8, (crc16 f.body).truncate 8] then some f
      else none
  | _ => none

/-- The command that a word spells by the bits of spec/opcode_table.json: no row gives bits. -/
def decodeTableWord (_nbits _w : Nat) : Option Instr := none

end Sys2Proof
end

