-- ==== Sys2Proof/Config.lean ====
section
/-! DEFINITION. What the spec leaves open: three uninterpreted constants. Nothing in Lean can evaluate them, so a
claim is true whatever they are. -/

namespace Sys2Proof.Config

/-- The value of a byte of a reply whose contents the spec does not state (notes/assumptions/6.md). The first
argument is the part's counter of free values, the second numbers the byte within one reply. -/
opaque freeByte : Nat → Nat → Byte

/-- Which of several expiries that fall due together is taken first. R56, R86, R105, R116 and others say "may come in
either order" (notes/assumptions/3.md). The argument is the part's counter of free values. -/
opaque tieBreak : Nat → Nat

/-- R127: the quotient of the ratio error where the target ratio is 0, which the spec does not define
(notes/assumptions/43.md). The argument is the ratio of the reading. -/
opaque ratioErrorOverZero : Nat → Int

end Sys2Proof.Config
end

