-- ==== Sys2Proof/Machine/State.lean ====
section
/-! DEFINITION. The state of the 3160, block by block as the spec's chapters give it, and its value after reset.
`Part` holds everything the spec gives the part; `State` is the part with its queue of waiting commands. -/

namespace Sys2Proof.Machine

/-! ### Outcomes -/

/-- The reasons for which a step of this block stops: none. The spec gives every command an effect in every state
(notes/assumptions/1.md). -/
inductive Fault : Type
  deriving DecidableEq, Repr

/-- The reasons for which a command is refused. -/
inductive Refusal where
  /-- Raised by `exec` alone, for a command that has no meaning yet. Safe: the model stops. -/
  | notModelled (mnemonic : String)
  deriving DecidableEq, Repr

/-! ### Table Memory (chapter 1) -/

/-- Table Memory as address and byte pairs, addresses strictly rising, no entry 0; an unlisted address reads 0. Block
n stands at addresses 64n to 64n + 63 (R1, R3). -/
abbrev Memory := List Host.Cell

/-- A licence write in flight (R4, R5): its block, the contents it held before, and when it completes. -/
structure LicenceWrite where
  block : Pat
  old : List Byte
  deadline : Uptime
  deriving DecidableEq, Repr

/-- The staged-bank state (R7). -/
inductive StagedState where
  | clean
  | editing
  | ready
  deriving DecidableEq, Repr

/-- Table Memory with its licence write and staged-bank state (R1 to R11). -/
structure Tables where
  mem : Memory
  licenceWrite : Option LicenceWrite
  staged : StagedState
  deriving DecidableEq, Repr

/-! ### Block Timer and Pairing Store (chapter 2) -/

/-- The Block Timer (R20): the index of the last block started, and the uptime of the next expiry. -/
structure BlockTimer where
  index : BitVec 16
  deadline : Uptime
  deriving DecidableEq, Repr

/-- One complex sample, each part signed (R188). -/
structure Sample where
  i : BitVec 16
  q : BitVec 16
  deriving DecidableEq, Repr

/-- One tower's block: its samples and OVERRANGE flag (R22). -/
structure Block where
  samples : List Sample
  overrange : Bool
  deriving DecidableEq, Repr

/-- A Pairing Store entry (R22). `epoch` is the epoch mark EPOCH. -/
structure Entry where
  index : BitVec 16
  refTower : Tower
  epoch : Bool
  refBlock : Option Block
  held : List (Tower × Block)
  combined : List Tower
  deriving DecidableEq, Repr

/-- The Pairing Store, oldest entry first, and the epoch start index (R22, R33). -/
structure PairingStore where
  entries : List Entry
  epochStart : BitVec 16
  deriving DecidableEq, Repr

/-! ### Correlator and Reading Table (chapter 3) -/

/-- The role of a tower in a pattern (R15). -/
inductive Role where
  | lit
  | dark
  deriving DecidableEq, Repr

/-- One of the twelve tower entries of a monitor configuration (R37). `ratio` is the dark limit of a DARK tower. -/
structure TowerTarget where
  role : Role
  ratio : Nat
  phase : Int
  ratioTol : Nat
  phaseTol : Nat
  deriving DecidableEq, Repr

/-- The monitor configuration (R37). Source `none` is IDLE; targets are absent under IDLE. -/
structure MonitorConfig where
  source : Option Pat
  refTower : Tower
  w : Nat
  s : Nat
  targets : Option (Vector TowerTarget 12)
  deriving DecidableEq, Repr

/-- An accumulator set (R39): saturating sums, held exactly. -/
structure Accum where
  re : Int
  im : Int
  p : Int
  count : Nat
  limit : Bool
  overrange : Bool
  deriving DecidableEq, Repr

/-- A cleared accumulator set (R39). -/
def Accum.clear : Accum := { re := 0, im := 0, p := 0, count := 0, limit := false, overrange := false }

/-- The Correlator: the monitor configuration and one accumulator set per tower (R37, R39). -/
structure Correlator where
  config : MonitorConfig
  accums : Vector Accum 12
  deriving DecidableEq, Repr

/-- The state of a reading (R51). -/
inductive ReadingState where
  | pending
  | valid
  | stale
  | noSignal
  | clipped
  deriving DecidableEq, Repr

/-- A reading record (R51). -/
structure Reading where
  state : ReadingState
  ratio : Nat
  phase : Int
  closes : BitVec 16
  age : Nat
  late : Nat
  inTol : Bool
  deriving DecidableEq, Repr

/-- A reading record after a reset, before the reset's monitor restart (R51). -/
def Reading.fresh : Reading :=
  { state := .pending, ratio := 0, phase := 0, closes := 0, age := 0, late := 0, inTol := false }

/-- The Reading Table (R35, R36, R49, R51): records, quiet runs, QUIET and ANY_CLIPPED. -/
structure ReadingTable where
  readings : Vector Reading 12
  quietRuns : Vector Nat 12
  quiet : Bool
  anyClipped : Bool
  deriving DecidableEq, Repr

/-! ### Verdict Unit (chapter 4) -/

/-- A round's verdict (R66); `noVerdict` is NONE. -/
inductive Verdict where
  | noVerdict
  | inTol
  | outTol
  deriving DecidableEq, Repr

/-- The Verdict Unit (R61). -/
structure VerdictUnit where
  counter : BitVec 16
  coverage : List Tower
  last : Verdict
  failing : List Tower
  deriving DecidableEq, Repr

/-! ### Faults (chapter 9), as data -/

/-- The fault kinds, in the order of R151. -/
inductive FaultKind where
  | hotContact
  | rfInSwitch
  | contactDrift
  | contactTimeout
  | contactFault
  | setMismatch
  | muteTimeout
  | actuatorTimeout
  | actuatorStall
  | trimExhausted
  | settleTimeout
  | rampTimeout
  | revertIncomplete
  | txTrip
  | fieldLinkDown
  | towerStale
  | elementSilent
  | outOfTolerance
  | stationLinkDown
  | clippedWindow
  | sampleSequence
  | actuatorLimit
  | requestOverrun
  | requestDropped
  | aborted
  | clockInvalid
  deriving DecidableEq, Repr

/-- The fault classes (chapter 9). -/
inductive FaultClass where
  | a
  | b
  | c
  | d
  deriving DecidableEq, Repr

/-- The source of a request, or of a change (R72, R73). -/
inductive Source where
  | panel
  | mgmt
  | schedule
  | internal
  deriving DecidableEq, Repr

/-- The object of a fault (R150). -/
inductive FaultObject where
  | nothing
  | tower (t : Tower)
  | element (e : Elem)
  | request (s : Source)
  deriving DecidableEq, Repr

/-! ### Change Sequencer (chapter 5) -/

/-- The phases of a change (R78). -/
inductive Phase where
  | rampDown
  | muting
  | switching
  | presetting
  | rampToTrim
  | trimming
  | verifying
  | rampFinal
  deriving DecidableEq, Repr

/-- The in-pattern substatus (R71). -/
inductive Substatus where
  | normal
  | degraded
  deriving DecidableEq, Repr

/-- The attribute of a change (R72). -/
inductive ChangeKind where
  | normal
  | reseat
  | revert
  deriving DecidableEq, Repr

/-- The cause of a reversion (R72). -/
inductive Cause where
  | fault (k : FaultKind)
  | abort
  deriving DecidableEq, Repr

/-- The change record (R72). -/
structure Change where
  fromPat : Option Pat
  toPat : Option Pat
  source : Source
  kind : ChangeKind
  cause : Option Cause
  phase : Phase
  moves : Bool
  group : Nat
  phaseDeadline : Option Uptime
  settleDeadline : Option Uptime
  verify : Nat
  adopted : Bool
  deriving DecidableEq, Repr

/-- The sequencer's state, with the change record where it is CHANGING (R71, R72). -/
inductive Mode where
  | stopped
  | changing (c : Change)
  | inPattern
  | halted
  deriving DecidableEq, Repr

/-- A pending request (R89): its source and its target, `none` for a stop. -/
structure Request where
  source : Source
  target : Option Pat
  deriving DecidableEq, Repr

/-- The Change Sequencer (R71, R89). `sub`: the in-pattern substatus, which has a meaning in IN_PATTERN and stands as it
is outside it (notes/assumptions/41.md). `ootRaised`: the out-of-tolerance run in progress has raised OUT_OF_TOLERANCE,
which R154 raises once per run (notes/assumptions/50.md). -/
structure Sequencer where
  mode : Mode
  sub : Substatus
  active : Option Pat
  ootRun : Nat
  ootRaised : Bool
  restore : Nat
  slot : Option Request
  anyOverrun : Bool
  deriving DecidableEq, Repr

/-! ### Elements and Switch Engine (chapter 6) -/

/-- The reported state of a contactor (R97). -/
inductive ContactState where
  | unknown
  | opened
  | closed
  | moving
  | fault
  deriving DecidableEq, Repr

/-- The reported motion of an actuator (R97). -/
inductive Motion where
  | unknown
  | atRest
  | moving
  | stalled
  deriving DecidableEq, Repr

/-- What a contactor is ordered to be (R102, R17). -/
inductive Contact where
  | opened
  | closed
  deriving DecidableEq, Repr

/-- What a command asks for (R102). -/
inductive Order where
  | contact (c : Contact)
  | position (p : Nat)
  deriving DecidableEq, Repr

/-- The origin of a command (R102). -/
inductive Origin where
  | part
  | station
  deriving DecidableEq, Repr

/-- A command in flight (R102). -/
structure Command where
  origin : Origin
  order : Order
  deadline : Uptime
  retries : Nat
  preset : Bool
  deriving DecidableEq, Repr

/-- An element status record (R97). -/
structure ElemRecord where
  contact : ContactState
  motion : Motion
  position : Option Nat
  lastReport : Option Uptime
  command : Option Command
  expired : Option Contact
  trimCount : Nat
  settleCount : Nat
  atLimit : Bool
  deriving DecidableEq, Repr

/-- An element status record after a reset (R97). -/
def ElemRecord.fresh : ElemRecord :=
  { contact := .unknown, motion := .unknown, position := none, lastReport := none, command := none,
    expired := none, trimCount := 0, settleCount := 0, atLimit := false }

/-- The walk state of the Switch Engine (R112). STARTING is passed through within the event of a group's start
(notes/assumptions/15.md). -/
inductive WalkState where
  | idle
  | starting
  | inGroup
  | dwell
  | withheld
  deriving DecidableEq, Repr

/-- The status of a step of the group in progress (R112). -/
inductive StepStatus where
  | pending
  | deferred
  | commanded
  | complete
  deriving DecidableEq, Repr

/-- The Switch Engine (R112). -/
structure SwitchEngine where
  state : WalkState
  steps : List StepStatus
  dwellDeadline : Option Uptime
  deriving DecidableEq, Repr

/-! ### Trim Engine (chapter 7) and Ramp Engine (chapter 8) -/

/-- The Trim Engine (R119). `allowance`: an ACTUATOR_LIMIT record may still be made. -/
structure TrimEngine where
  deferred : List Elem
  exhausted : List Elem
  allowance : Bool
  deriving DecidableEq, Repr

/-- The Ramp Engine (R137), with the ramp parameters read at the last order (R139): `step` and `tolerance` in per
mille, `interval` in ms. -/
structure RampEngine where
  level : Nat
  target : Nat
  inProgress : Bool
  deadline : Option Uptime
  nextSend : Option Uptime
  lastReported : Option Nat
  inhibit : Bool
  step : Nat
  interval : Nat
  tolerance : Nat
  deriving DecidableEq, Repr

/-! ### Fault Unit (chapter 9) -/

/-- The sequencer's state and phase or substatus, as a fault record keeps it (R152). -/
inductive Situation where
  | stopped
  | changing (p : Phase)
  | inPattern (s : Substatus)
  | halted
  deriving DecidableEq, Repr

/-- A date and time of day (R180). -/
structure Calendar where
  year : Nat
  month : Nat
  day : Nat
  hour : Nat
  minute : Nat
  second : Nat
  deriving DecidableEq, Repr

/-- A fault record (R152). `pats`: from- and to-pattern, absent when the sequencer was not CHANGING. -/
structure FaultRecord where
  kind : FaultKind
  cls : FaultClass
  object : FaultObject
  situation : Situation
  pats : Option (Option Pat × Option Pat)
  first : Uptime
  last : Uptime
  clock : Option Calendar
  repeats : Nat
  active : Bool
  deriving DecidableEq, Repr

/-- The Fault Unit's list, oldest first, and its OVERFLOW flag (R152, R153). -/
structure FaultUnit where
  records : List FaultRecord
  overflow : Bool
  deriving DecidableEq, Repr

/-- A raise whose reaction the event still owes (R150, R156): its class, its kind and the change as it stood at the
raise. -/
structure Raised where
  cls : FaultClass
  kind : FaultKind
  situation : Situation
  pats : Option (Option Pat × Option Pat)
  deriving DecidableEq, Repr

/-! ### Ports (chapter 10) -/

/-- A port's link state and link deadline (R164). -/
structure Link where
  up : Bool
  deadline : Option Uptime
  deriving DecidableEq, Repr

/-- An ELEM_CMD frame of the part that waits in the Field Port's arbiter (R173). -/
structure PartFrame where
  elem : Elem
  order : Order
  frame : Frame
  deriving DecidableEq, Repr

/-- A frame in the field-bound queue. `owner`: the element whose command was created as the frame entered the queue,
while that command is in flight (R109, R110, R134). -/
structure FieldItem where
  frame : Frame
  owner : Option Elem
  deriving DecidableEq, Repr

/-- The Field Port (R164, R170, R173). `sending`: the frame in transmission; `blockStart`: the waiting BLOCK_START. -/
structure FieldPort where
  link : Link
  discards : Nat
  sending : Option Frame
  blockStart : Option (BitVec 16)
  commands : List PartFrame
  queue : List FieldItem
  deriving DecidableEq, Repr

/-- A frame in the station-bound queue. `rampSince`: a ramp has been ordered since it was placed (R149). -/
structure StationItem where
  frame : Frame
  rampSince : Bool
  deriving DecidableEq, Repr

/-- The Station Port (R164, R170, R171, R174). `power`: the level of the part's POWER frame that waits. -/
structure StationPort where
  link : Link
  discards : Nat
  sending : Option Frame
  replies : List Frame
  power : Option Nat
  monitor : Option Frame
  queue : List StationItem
  deriving DecidableEq, Repr

/-! ### Clock, Scheduler and output lines (chapter 11) -/

/-- The calendar clock, `none` while UNSET, and the expiry of its one-second timer (R180). -/
structure Clock where
  time : Option Calendar
  second : Option Uptime
  deriving DecidableEq, Repr

/-- The Scheduler (R181, R182). `evalDue`: a promotion changed the schedule enable, and its evaluation is the next
event (R182). -/
structure Scheduler where
  inForce : Option Pat
  lastRaised : Option Pat
  owed : Bool
  evalDue : Bool
  deriving DecidableEq, Repr

/-- The FAULT line and the IN_PATTERN lamp (R162, R184). INHIBIT is in the Ramp Engine (R137). -/
structure Pins where
  fault : Bool
  inPattern : Bool
  deriving DecidableEq, Repr

/-! ### The part -/

/-- Everything the spec gives the part, one field for each block. `raised` and `free` are the model's own: the raises
whose reaction the event in progress still owes (empty between events), and the counter of free values. -/
structure Part where
  /-- RESET_N is asserted: the part is held in reset. -/
  held : Bool
  lines : Lines
  pins : Pins
  uptime : Uptime
  tables : Tables
  timer : BlockTimer
  store : PairingStore
  corr : Correlator
  table : ReadingTable
  round : VerdictUnit
  seq : Sequencer
  elems : Vector ElemRecord 40
  walk : SwitchEngine
  trim : TrimEngine
  ramp : RampEngine
  faults : FaultUnit
  field : FieldPort
  station : StationPort
  clock : Clock
  sched : Scheduler
  raised : List Raised
  free : Nat
  deriving DecidableEq, Repr

/-- The machine: the part, and the queue of commands that wait, first in, first out. -/
structure State where
  pending : List Instr
  part : Part
  deriving DecidableEq, Repr

/-! ### Updates of one field -/

/-- The part with `held` replaced. -/
def Part.setHeld (s : Part) (x : Bool) : Part := { s with held := x }

/-- The part with `lines` replaced. -/
def Part.setLines (s : Part) (x : Lines) : Part := { s with lines := x }

/-- The part with `pins` replaced. -/
def Part.setPins (s : Part) (x : Pins) : Part := { s with pins := x }

/-- The part with `uptime` replaced. -/
def Part.setUptime (s : Part) (x : Uptime) : Part := { s with uptime := x }

/-- The part with `tables` replaced. -/
def Part.setTables (s : Part) (x : Tables) : Part := { s with tables := x }

/-- The part with `timer` replaced. -/
def Part.setTimer (s : Part) (x : BlockTimer) : Part := { s with timer := x }

/-- The part with `store` replaced. -/
def Part.setStore (s : Part) (x : PairingStore) : Part := { s with store := x }

/-- The part with `corr` replaced. -/
def Part.setCorr (s : Part) (x : Correlator) : Part := { s with corr := x }

/-- The part with `table` replaced. -/
def Part.setTable (s : Part) (x : ReadingTable) : Part := { s with table := x }

/-- The part with `round` replaced. -/
def Part.setRound (s : Part) (x : VerdictUnit) : Part := { s with round := x }

/-- The part with `seq` replaced. -/
def Part.setSeq (s : Part) (x : Sequencer) : Part := { s with seq := x }

/-- The part with `elems` replaced. -/
def Part.setElems (s : Part) (x : Vector ElemRecord 40) : Part := { s with elems := x }

/-- The part with `walk` replaced. -/
def Part.setWalk (s : Part) (x : SwitchEngine) : Part := { s with walk := x }

/-- The part with `trim` replaced. -/
def Part.setTrim (s : Part) (x : TrimEngine) : Part := { s with trim := x }

/-- The part with `ramp` replaced. -/
def Part.setRamp (s : Part) (x : RampEngine) : Part := { s with ramp := x }

/-- The part with `faults` replaced. -/
def Part.setFaults (s : Part) (x : FaultUnit) : Part := { s with faults := x }

/-- The part with `field` replaced. -/
def Part.setField (s : Part) (x : FieldPort) : Part := { s with field := x }

/-- The part with `station` replaced. -/
def Part.setStation (s : Part) (x : StationPort) : Part := { s with station := x }

/-- The part with `clock` replaced. -/
def Part.setClock (s : Part) (x : Clock) : Part := { s with clock := x }

/-- The part with `sched` replaced. -/
def Part.setSched (s : Part) (x : Scheduler) : Part := { s with sched := x }

/-- The part with `raised` replaced. -/
def Part.setRaised (s : Part) (x : List Raised) : Part := { s with raised := x }

/-- The part with `free` replaced. -/
def Part.setFree (s : Part) (x : Nat) : Part := { s with free := x }

/-! ### Reset values -/

/-- A DOWN link with no deadline (R164). -/
def Link.down : Link := { up := false, deadline := none }

/-- The monitor configuration under a zero site record (R37). -/
def MonitorConfig.zero : MonitorConfig := { source := none, refTower := 0, w := 0, s := 0, targets := none }

/-- The values a cold reset sets, each as its chapter gives it: R8, R11 (tables, licence region as delivered, R5),
R20, R22, R33, R37, R39, R51, R35, R36, R49, R61, R71, R89, R97, R112, R119, R137, R163, R164, R170 to R174, R177,
R179 to R184. The reset's monitor restart is made (R33, R51: epoch start 1, tower 0 at ratio 10000). The input lines
are released (DESIGN CHOICE, notes/assumptions/2.md), and the Block Timer's first expiry is due at uptime 2 (R20). -/
def Part.cold : Part :=
  { held := false
    lines := { localOn := false, licenceKey := false, txTrip := false, panelSel := 0 }
    pins := { fault := false, inPattern := false }
    uptime := 0
    tables := { mem := [], licenceWrite := none, staged := .clean }
    timer := { index := 0, deadline := 2 }
    store := { entries := [], epochStart := 1 }
    corr := { config := MonitorConfig.zero, accums := Vector.replicate 12 Accum.clear }
    table :=
      { readings := (Vector.replicate 12 Reading.fresh).set 0 { Reading.fresh with ratio := 10000 }
        quietRuns := Vector.replicate 12 0
        quiet := true
        anyClipped := false }
    round := { counter := 0, coverage := [], last := .noVerdict, failing := [] }
    seq :=
      { mode := .stopped, sub := .normal, active := none, ootRun := 0, ootRaised := false, restore := 0,
        slot := none, anyOverrun := false }
    elems := Vector.replicate 40 ElemRecord.fresh
    walk := { state := .idle, steps := [], dwellDeadline := none }
    trim := { deferred := [], exhausted := [], allowance := true }
    ramp :=
      { level := 0, target := 0, inProgress := false, deadline := none, nextSend := none,
        lastReported := none, inhibit := true, step := 0, interval := 0, tolerance := 0 }
    faults := { records := [], overflow := false }
    field := { link := Link.down, discards := 0, sending := none, blockStart := none, commands := [], queue := [] }
    station :=
      { link := Link.down, discards := 0, sending := none, replies := [], power := none, monitor := none,
        queue := [] }
    clock := { time := none, second := none }
    sched := { inForce := none, lastRaised := none, owed := false, evalDue := false }
    raised := []
    free := 0 }

/-- The machine right after a cold reset has ended with every input line released: no command waits, and the POWER
frame carrying 0 that the Ramp Engine hands over at the reset's end (R137) has been chosen by the idle Station Port
(R172; notes/assumptions/4.md). -/
def State.reset : State :=
  { pending := []
    part :=
      { Part.cold with
        station :=
          { Part.cold.station with sending := some { dst := 24, src := 0, kind := 5, payload := [0, 0] } } } }

end Sys2Proof.Machine
end

