-- ==== Sys2Proof/Machine/Ops.lean ====
section
/-! DEFINITION. The named operations over Table Memory, byte order, uptime values, index types and tables of
records. -/

namespace Sys2Proof.Machine

/-! ### Table Memory -/

/-- What Table Memory reads at an address: the listed byte, else 0 (R5, R8, R11). -/
def Memory.read : Memory → Nat → Byte
  | [], _ => 0
  | (k, v) :: m, a => if k = a then v else if a < k then 0 else Memory.read m a

/-- Table Memory with one byte replaced, in canonical form. -/
def Memory.write : Memory → Nat → Byte → Memory
  | [], a, b => if b = 0 then [] else [(a, b)]
  | (k, v) :: m, a, b =>
    if a < k then (if b = 0 then (k, v) :: m else (a, b) :: (k, v) :: m)
    else if a = k then (if b = 0 then m else (a, b) :: m)
    else (k, v) :: Memory.write m a b

/-- Table Memory with the bytes of a list written from an address upward. -/
def Memory.writeBytes : Memory → Nat → List Byte → Memory
  | m, _, [] => m
  | m, a, b :: bs => Memory.writeBytes (Memory.write m a b) (a + 1) bs

/-- `n` bytes of Table Memory from an address upward. -/
def Memory.readBytes (m : Memory) : Nat → Nat → List Byte
  | _, 0 => []
  | a, n + 1 => m.read a :: Memory.readBytes m (a + 1) n

/-- Every entry of a list of cells is nonzero and stands above `lo`, in rising order. -/
def cellsFrom : Nat → Memory → Bool
  | _, [] => true
  | lo, (k, v) :: m => decide (lo ≤ k) && decide (v ≠ 0) && cellsFrom (k + 1) m

/-- The canonical form: addresses strictly rising, no entry equal to what an unlisted address reads. -/
def Memory.wf (m : Memory) : Bool := cellsFrom 0 m

/-- The cells whose address satisfies a test. -/
def Memory.keep (m : Memory) (p : Nat → Bool) : Memory := m.filter fun c => p c.1

/-- The address of the first byte of block n. -/
def blockAddr (n : Nat) : Nat := 64 * n

/-- R1: the populated blocks. -/
def populated (n : Nat) : Bool :=
  decide (n ≤ 3) || (decide (16 ≤ n) && decide (n ≤ 58)) || (decide (80 ≤ n) && decide (n ≤ 122)) ||
    (decide (124 ≤ n) && decide (n ≤ 126))

/-- R9: the active bank's 43 blocks become those of the staged bank. -/
def Memory.promote (m : Memory) : Memory :=
  (m.keep fun a => decide (a < 5120)) ++
    ((m.keep fun a => decide (1024 ≤ a) && decide (a < 3776)).map fun c => (c.1 + 4096, c.2)) ++
    (m.keep fun a => decide (7872 ≤ a))

/-- R5, R8, R11: what a cold reset leaves of Table Memory: the licence region. -/
def Memory.licenceOnly (m : Memory) : Memory := m.keep fun a => decide (a < 256)

/-! ### Byte order (R185: high byte first) -/

/-- An unsigned byte field. -/
def Memory.u8 (m : Memory) (a : Nat) : Nat := (m.read a).toNat

/-- An unsigned 2-byte field. -/
def Memory.u16 (m : Memory) (a : Nat) : Nat := 256 * m.u8 a + m.u8 (a + 1)

/-- An unsigned 5-byte field. -/
def Memory.u40 (m : Memory) (a : Nat) : Nat :=
  16777216 * m.u16 a + 65536 * m.u8 (a + 2) + m.u16 (a + 3)

/-- The two's complement value of a 16-bit field. -/
def signed16 (n : Nat) : Int := if n < 32768 then (n : Int) else (n : Int) - 65536

/-- One byte of a frame, low 8 bits of a number. -/
def byte1 (n : Nat) : List Byte := [BitVec.ofNat 8 n]

/-- A 2-byte field of a frame. -/
def byte2 (n : Nat) : List Byte := [BitVec.ofNat 8 (n / 256), BitVec.ofNat 8 n]

/-- A 2-byte signed field of a frame. -/
def byte2s (z : Int) : List Byte := byte2 (z % 65536).toNat

/-- A 4-byte field of a frame. -/
def byte4 (n : Nat) : List Byte := byte2 (n / 65536) ++ byte2 n

/-- R190: a flag byte, 1 for set, yes or asserted. -/
def byteFlag (b : Bool) : List Byte := [if b then 1 else 0]

/-- R185: a pattern field. -/
def bytePat (p : Option Pat) : List Byte :=
  match p with
  | some i => byte1 i.val
  | none => [255]

/-- R185: a tower set, bit t for tower t. -/
def byteTowers (l : List Tower) : List Byte := byte2 ((l.map fun t => 2 ^ t.val).foldl (· ||| ·) 0)

/-- A 2-byte field of a payload, 0 beyond its end. -/
def payload16 (l : List Byte) (k : Nat) : Nat := 256 * (l.getD k 0).toNat + (l.getD (k + 1) 0).toNat

/-- A byte field of a payload, 0 beyond its end. -/
def payload8 (l : List Byte) (k : Nat) : Nat := (l.getD k 0).toNat

/-! ### Index types -/

/-- The tower an in-range field names. COMMIT admits no other value (R12, R14, R16). -/
def towerOf (n : Nat) : Tower := ⟨n % 12, by omega⟩

/-- The element an in-range field names. COMMIT admits no other value (R16, R17). -/
def elemOf (n : Nat) : Elem := ⟨n % 40, by omega⟩

/-- R75: the pattern id a target names, where it is 0..3. -/
def patOf (n : Nat) : Option Pat := if h : n < 4 then some ⟨n, h⟩ else none

/-- Every tower index, ascending. -/
def towers : List Tower := List.finRange 12

/-- Every element index, ascending. -/
def elements : List Elem := List.finRange 40

/-- The record of one index replaced. -/
def setAt {α : Type} {n : Nat} (v : Vector α n) (i : Fin n) (x : α) : Vector α n := v.set i.val x i.isLt

/-- Every record replaced by a function of its index and itself. -/
def mapAll {α β : Type} {n : Nat} (v : Vector α n) (f : Fin n → α → β) : Vector β n :=
  Vector.ofFn fun i => f i v[i]

/-- A set of towers with one more, in tower order, no tower twice (R22, R61). -/
def addTower : List Tower → Tower → List Tower
  | [], t => [t]
  | u :: l, t => if t < u then t :: u :: l else if t = u then u :: l else u :: addTower l t

/-- A set of elements with one more, ascending, no index twice (R119). -/
def addElem : List Elem → Elem → List Elem
  | [], e => [e]
  | u :: l, e => if e < u then e :: u :: l else if e = u then u :: l else u :: addElem l e

/-- A held set with one more tower's block, in tower order (R22). -/
def addHeld : List (Tower × Block) → Tower → Block → List (Tower × Block)
  | [], t, b => [(t, b)]
  | u :: l, t, b => if t < u.1 then (t, b) :: u :: l else if t = u.1 then (t, b) :: l else u :: addHeld l t b

/-- A count raised by one, stopping at a limit. -/
def bump (limit n : Nat) : Nat := if n < limit then n + 1 else n

/-! ### Uptime (R179) -/

/-- R179: the deadline has come: the time elapsed since it is not negative. Every deadline lies less than 2^31 ms
ahead. -/
def due (now d : Uptime) : Bool := decide ((now - d).toNat < 2147483648)

/-- The uptime `ms` milliseconds after `now`. -/
def after (now : Uptime) (ms : Nat) : Uptime := now + BitVec.ofNat 32 ms

/-- The milliseconds from `now` to a deadline that lies ahead, 0 for one that has come. -/
def remaining (now d : Uptime) : Nat := if due now d then 0 else (d - now).toNat

/-- The expiry of a deadline is an event at that time of the uptime counter (00_scope, Time): the uptime is the
deadline's, or stands where the deadline has already come (notes/assumptions/3.md). -/
def Part.atDeadline (s : Part) (d : Uptime) : Part := if due s.uptime d then s else s.setUptime d

/-! ### Free values -/

/-- A byte of a reply that the spec does not state (notes/assumptions/6.md). -/
def Part.freeByte (s : Part) (k : Nat) : Byte := Config.freeByte s.free k

/-- The counter of free values moved on. -/
def Part.nextFree (s : Part) : Part := s.setFree (s.free + 1)

end Sys2Proof.Machine
end

