-- ==== Sys2Proof/Machine/Tables.lean ====
section
/-! DEFINITION. The fields of the tables, read from Table Memory at each use (R3): the layouts of R191, with the
meanings of R6 and R11 to R17. -/

namespace Sys2Proof.Machine

/-- One of the two banks: Table Memory and the address the bank starts at (R3). -/
structure Bank where
  mem : Memory
  base : Nat

/-- The staged bank, blocks 16 to 58 (R3). -/
def stagedBank (m : Memory) : Bank := ⟨m, 1024⟩

/-- The active bank, blocks 80 to 122 (R3). -/
def activeBank (m : Memory) : Bank := ⟨m, 5120⟩

/-- The active bank of the part. -/
def Part.bank (s : Part) : Bank := activeBank s.tables.mem

/-- A byte field of a bank at a bank-relative address. -/
def Bank.u8 (b : Bank) (a : Nat) : Nat := b.mem.u8 (b.base + a)

/-- A 2-byte field of a bank at a bank-relative address. -/
def Bank.u16 (b : Bank) (a : Nat) : Nat := b.mem.u16 (b.base + a)

/-- A 5-byte field of a bank at a bank-relative address. -/
def Bank.u40 (b : Bank) (a : Nat) : Nat := b.mem.u40 (b.base + a)

/-! ### Site record (R12, R191) -/

/-- The tower count. -/
def Bank.towerCount (b : Bank) : Nat := b.u8 0

/-- The TSU node of a tower. -/
def Bank.tsuNode (b : Bank) (t : Tower) : Nat := b.u8 (1 + t.val)

/-- The quiet level. -/
def Bank.quietLevel (b : Bank) : Nat := b.u40 13

/-- The signal floor. -/
def Bank.signalFloor (b : Bank) : Nat := b.u40 18

/-- The idle reference tower. -/
def Bank.idleRef (b : Bank) : Tower := towerOf (b.u8 23)

/-- The idle w. -/
def Bank.idleW (b : Bank) : Nat := b.u8 24

/-- The idle s. -/
def Bank.idleS (b : Bank) : Nat := b.u8 25

/-- The ramp step, per mille. -/
def Bank.rampStep (b : Bank) : Nat := b.u16 26

/-- The ramp interval, in ms. -/
def Bank.rampInterval (b : Bank) : Nat := 10 * b.u8 28

/-- The ramp tolerance, per mille. -/
def Bank.rampTolerance (b : Bank) : Nat := b.u8 29

/-- The ramp grace, in ms. -/
def Bank.rampGrace (b : Bank) : Nat := 100 * b.u8 30

/-- The mute timeout, in ms. -/
def Bank.muteTimeout (b : Bank) : Nat := b.u16 31

/-- The forward-samples flag of a tower. -/
def Bank.forwardSamples (b : Bank) (t : Tower) : Bool := b.u8 (33 + t.val) == 1

/-- The schedule enable. -/
def Bank.scheduleEnable (b : Bank) : Bool := b.u8 45 == 1

/-- The tower of report slot k. -/
def Bank.reportTower (b : Bank) (k : Nat) : Tower := towerOf (b.u8 (46 + 2 * k))

/-- The quantity code of report slot k: 0 unused, 1 RATIO, 2 PHASE, 3 STATE. -/
def Bank.reportQuantity (b : Bank) (k : Nat) : Nat := b.u8 (47 + 2 * k)

/-- R12: an installed tower is one whose index is below the tower count. -/
def Bank.installed (b : Bank) (t : Tower) : Bool := decide (t.val < b.towerCount)

/-- The installed towers, ascending. -/
def Bank.installedTowers (b : Bank) : List Tower := towers.filter b.installed

/-- R26: the installed tower whose TSU node is a frame's source node. -/
def Bank.towerOfNode (b : Bank) (node : Byte) : Option Tower :=
  b.installedTowers.find? fun t => b.tsuNode t == node.toNat

/-! ### Element table (R13, R191) -/

/-- The kind of an element entry. -/
inductive ElemKind where
  | absent
  | contactor
  | actuator
  deriving DecidableEq, Repr

/-- The bank-relative address of element entry e. -/
def elemAddr (e : Elem) : Nat := 128 + 8 * e.val

/-- The kind code of an element entry, 0..3. -/
def Bank.elemKindCode (b : Bank) (e : Elem) : Nat := b.u8 (elemAddr e) / 64

/-- The kind of an element entry. Code 3 is RANGE to COMMIT and stands in no promoted bank. -/
def Bank.elemKind (b : Bank) (e : Elem) : ElemKind :=
  match b.elemKindCode e with
  | 1 => .contactor
  | 2 => .actuator
  | _ => .absent

/-- STATION_WHEN_STOPPED. -/
def Bank.stationWhenStopped (b : Bank) (e : Elem) : Bool := b.u8 (elemAddr e) / 32 % 2 == 1

/-- STATION_IN_PATTERN. -/
def Bank.stationInPattern (b : Bank) (e : Elem) : Bool := b.u8 (elemAddr e) / 16 % 2 == 1

/-- The channel. -/
def Bank.elemChannel (b : Bank) (e : Elem) : Nat := b.u8 (elemAddr e) % 16

/-- The retry flag. -/
def Bank.elemRetry (b : Bank) (e : Elem) : Bool := b.u8 (elemAddr e + 1) / 128 == 1

/-- The unit node. -/
def Bank.elemNode (b : Bank) (e : Elem) : Nat := b.u8 (elemAddr e + 1) % 128

/-- The operate timeout of a contactor, in ms. -/
def Bank.operateTimeout (b : Bank) (e : Elem) : Nat := 10 * b.u8 (elemAddr e + 2)

/-- The travel timeout of an actuator, in ms. -/
def Bank.travelTimeout (b : Bank) (e : Elem) : Nat := 100 * b.u8 (elemAddr e + 2)

/-- The position deadband of an actuator. -/
def Bank.posDeadband (b : Bank) (e : Elem) : Nat := b.u8 (elemAddr e + 3)

/-- The lowest position of an actuator. -/
def Bank.posMin (b : Bank) (e : Elem) : Nat := b.u16 (elemAddr e + 4)

/-- The highest position of an actuator. -/
def Bank.posMax (b : Bank) (e : Elem) : Nat := b.u16 (elemAddr e + 6)

/-- R13: the element of a unit node and channel. -/
def Bank.findElem (b : Bank) (node channel : Nat) : Option Elem :=
  elements.find? fun e =>
    (b.elemKind e != .absent) && (b.elemNode e == node) && (b.elemChannel e == channel)

/-- The contactors, ascending. -/
def Bank.contactors (b : Bank) : List Elem := elements.filter fun e => b.elemKind e == .contactor

/-! ### Pattern records (R14, R15, R16, R191) -/

/-- The bank-relative address of pattern record p. -/
def patAddr (p : Pat) : Nat := 448 + 320 * p.val

/-- The defined flag. -/
def Bank.patDefined (b : Bank) (p : Pat) : Bool := b.u8 (patAddr p) == 1

/-- The pattern's reference tower. -/
def Bank.patRef (b : Bank) (p : Pat) : Tower := towerOf (b.u8 (patAddr p + 1))

/-- The operating level. -/
def Bank.operatingLevel (b : Bank) (p : Pat) : Nat := b.u16 (patAddr p + 2)

/-- The trim level. -/
def Bank.trimLevel (b : Bank) (p : Pat) : Nat := b.u16 (patAddr p + 4)

/-- The degraded level. -/
def Bank.degradedLevel (b : Bank) (p : Pat) : Nat := b.u16 (patAddr p + 6)

/-- The pattern's w. -/
def Bank.patW (b : Bank) (p : Pat) : Nat := b.u8 (patAddr p + 8)

/-- The pattern's s. -/
def Bank.patS (b : Bank) (p : Pat) : Nat := b.u8 (patAddr p + 9)

/-- Verify rounds. -/
def Bank.verifyRounds (b : Bank) (p : Pat) : Nat := b.u8 (patAddr p + 10)

/-- Settle windows. -/
def Bank.settleWindows (b : Bank) (p : Pat) : Nat := b.u8 (patAddr p + 11)

/-- The trim limit. -/
def Bank.trimLimit (b : Bank) (p : Pat) : Nat := b.u8 (patAddr p + 12)

/-- The settle timeout, in ms. -/
def Bank.settleTimeout (b : Bank) (p : Pat) : Nat := 1000 * b.u16 (patAddr p + 13)

/-- The OOT grace, in rounds. -/
def Bank.ootGrace (b : Bank) (p : Pat) : Nat := b.u8 (patAddr p + 15)

/-- Trim mode CONTINUOUS. -/
def Bank.continuous (b : Bank) (p : Pat) : Bool := b.u8 (patAddr p + 16) == 1

/-- The state the contactor set requires of an element. -/
def Bank.required (b : Bank) (p : Pat) (e : Elem) : Contact :=
  if b.u8 (patAddr p + 17 + e.val / 8) / 2 ^ (7 - e.val % 8) % 2 = 1 then .closed else .opened

/-- The bank-relative address of tower entry t of pattern p. -/
def targetAddr (p : Pat) (t : Tower) : Nat := patAddr p + 24 + 8 * t.val

/-- Tower entry t of pattern p. -/
def Bank.target (b : Bank) (p : Pat) (t : Tower) : TowerTarget :=
  { role := if b.u8 (targetAddr p t) = 1 then .lit else .dark
    ratio := b.u16 (targetAddr p t + 1)
    phase := signed16 (b.u16 (targetAddr p t + 3))
    ratioTol := b.u8 (targetAddr p t + 5)
    phaseTol := b.u16 (targetAddr p t + 6) }

/-- The quantity an actuator entry controls (R16). -/
inductive Quantity where
  | ratio
  | phase
  deriving DecidableEq, Repr

/-- A used actuator entry (R16). -/
structure ActuatorEntry where
  elem : Elem
  tower : Tower
  quantity : Quantity
  sense : Int
  gain : Nat
  deadband : Nat
  maxStep : Nat
  preset : Nat
  deriving DecidableEq, Repr

/-- The bank-relative address of actuator entry a of pattern p. -/
def actuatorAddr (p : Pat) (a : Nat) : Nat := patAddr p + 120 + 12 * a

/-- Actuator entry a of pattern p, where it is used. -/
def Bank.actuatorEntry (b : Bank) (p : Pat) (a : Nat) : Option ActuatorEntry :=
  let k := actuatorAddr p a
  if b.u8 k < 40 then
    some
      { elem := elemOf (b.u8 k)
        tower := towerOf (b.u8 (k + 1))
        quantity := if b.u8 (k + 2) = 1 then .ratio else .phase
        sense := if b.u8 (k + 3) = 1 then 1 else -1
        gain := b.u16 (k + 4)
        deadband := b.u16 (k + 6)
        maxStep := b.u16 (k + 8)
        preset := b.u16 (k + 10) }
  else none

/-- The used actuator entries of pattern p, in entry order. -/
def Bank.actuatorEntries (b : Bank) (p : Pat) : List ActuatorEntry :=
  (List.range 16).filterMap (b.actuatorEntry p)

/-! ### Switch lists (R17, R191) -/

/-- A step of a switch list (R17). -/
structure SwitchStep where
  elem : Elem
  action : Contact
  group : Nat
  dwell : Nat
  deriving DecidableEq, Repr

/-- The bank-relative address of switch list p. -/
def switchAddr (p : Pat) : Nat := 1728 + 256 * p.val

/-- Step k of switch list p. -/
def Bank.switchStep (b : Bank) (p : Pat) (k : Nat) : SwitchStep :=
  let a := switchAddr p + 4 + 4 * k
  { elem := elemOf (b.u8 a)
    action := if b.u8 (a + 1) = 1 then .opened else .closed
    group := b.u8 (a + 2)
    dwell := b.u8 (a + 3) }

/-- Switch list p: its steps below the step count, of which the list has at most 63 places. -/
def Bank.switchList (b : Bank) (p : Pat) : List SwitchStep :=
  (List.range (min (b.u8 (switchAddr p)) 63)).map (b.switchStep p)

/-- R17, R113: the runs of consecutive steps that share one group number, in list order. -/
def groupsOf : List SwitchStep → List (List SwitchStep)
  | [] => []
  | x :: l =>
    match groupsOf l with
    | [] => [[x]]
    | [] :: gs => [x] :: gs
    | (y :: g) :: gs => if x.group = y.group then (x :: y :: g) :: gs else [x] :: (y :: g) :: gs

/-! ### Licence region (R6, R191) -/

/-- R6: the licensed level of pattern p; above 1000 it acts as 1000. -/
def Memory.licensedLevel (m : Memory) (p : Pat) : Nat := min (m.u16 (64 * p.val)) 1000

/-- The largest ratio tolerance the licence permits a tower. -/
def Memory.licensedRatioTol (m : Memory) (p : Pat) (t : Tower) : Nat := m.u16 (64 * p.val + 2 + 4 * t.val)

/-- The largest phase tolerance the licence permits a tower. -/
def Memory.licensedPhaseTol (m : Memory) (p : Pat) (t : Tower) : Nat := m.u16 (64 * p.val + 4 + 4 * t.val)

/-! ### Schedule (R11, R191) -/

/-- The transitions of a month's table (1 for January) that the Scheduler treats as used: minute and pattern. -/
def Memory.transitions (m : Memory) (month : Nat) : List (Nat × Pat) :=
  (List.range 4).filterMap fun k =>
    let a := 64 * (124 + (month - 1) / 4) + 16 * ((month - 1) % 4) + 4 * k
    if m.u8 (a + 3) = 1 ∧ m.u16 a ≤ 1439 then (patOf (m.u8 (a + 2))).map fun p => (m.u16 a, p) else none

/-! ### Conditions read by several blocks -/

/-- The change in flight (R72). -/
def Part.change? (s : Part) : Option Change :=
  match s.seq.mode with
  | .changing c => some c
  | _ => none

/-- The phase of the change in flight. -/
def Part.phase? (s : Part) : Option Phase := s.change?.map Change.phase

/-- The sequencer is CHANGING. -/
def Part.isChanging (s : Part) : Bool := s.change?.isSome

/-- The sequencer is IN_PATTERN. -/
def Part.isInPattern (s : Part) : Bool :=
  match s.seq.mode with
  | .inPattern => true
  | _ => false

/-- The sequencer is HALTED. -/
def Part.isHalted (s : Part) : Bool := s.seq.mode == .halted

/-- The change in flight rewritten; nothing where there is none. -/
def Part.modifyChange (s : Part) (f : Change → Change) : Part :=
  match s.seq.mode with
  | .changing c => s.setSeq { s.seq with mode := .changing (f c) }
  | _ => s

/-- The sequencer put into a state. -/
def Part.setMode (s : Part) (m : Mode) : Part := s.setSeq { s.seq with mode := m }

/-- The status record of an element rewritten. -/
def Part.modifyElem (s : Part) (e : Elem) (f : ElemRecord → ElemRecord) : Part :=
  s.setElems (setAt s.elems e (f s.elems[e]))

/-- R138: the phases in which the to-pattern governs, and R119: those that have a trim pattern. -/
def Phase.fromPresetting : Phase → Bool
  | .rampDown | .muting | .switching => false
  | _ => true

/-- R138: the governing pattern. -/
def Part.governing (s : Part) : Option Pat :=
  match s.seq.mode with
  | .changing c => if c.phase.fromPresetting then c.toPat else c.fromPat
  | .inPattern => s.seq.active
  | _ => none

/-- R138: the licensed level of the governing pattern, 0 where none governs. -/
def Part.licensedNow (s : Part) : Nat :=
  match s.governing with
  | some p => s.tables.mem.licensedLevel p
  | none => 0

/-- R119: the trim pattern. -/
def Part.trimPattern (s : Part) : Option Pat :=
  match s.seq.mode with
  | .changing c => if c.phase.fromPresetting then c.toPat else none
  | .inPattern => s.seq.active
  | _ => none

/-- R109: the hot-switch guard: INHIBIT is asserted and QUIET holds. -/
def Part.guardHolds (s : Part) : Bool := s.ramp.inhibit && s.table.quiet

/-- R36: every installed tower's quiet run is 2 or more. -/
def Part.quietNow (s : Part) : Bool := s.bank.installedTowers.all fun t => decide (2 ≤ s.table.quietRuns[t])

/-- The order asks something of a contactor. -/
def Order.isContact : Order → Bool
  | .contact _ => true
  | .position _ => false

/-- A command in flight for a contactor. -/
def ElemRecord.contactInFlight (r : ElemRecord) : Bool :=
  match r.command with
  | some c => c.order.isContact
  | none => false

/-- R63: a command in flight for an actuator. -/
def ElemRecord.actuatorInFlight (r : ElemRecord) : Bool :=
  match r.command with
  | some c => !c.order.isContact
  | none => false

/-- The contactors that have a command in flight, ascending. -/
def Part.contactsInFlight (s : Part) : List Elem := elements.filter fun e => s.elems[e].contactInFlight

/-- R63: an actuator command is in flight. -/
def Part.actuatorMoving (s : Part) : Bool := elements.any fun e => s.elems[e].actuatorInFlight

/-- R82, R123: a command with the preset mark is in flight, or a preset is deferred. -/
def Part.presetting (s : Part) : Bool :=
  (elements.any fun e =>
    match s.elems[e].command with
    | some c => c.preset
    | none => false) || !s.trim.deferred.isEmpty

/-- R97: an element of the active bank that has reported and then fallen quiet. -/
def Part.silent (s : Part) (e : Elem) : Bool :=
  s.elems[e].lastReport.isSome &&
    match s.bank.elemKind e with
    | .contactor => s.elems[e].contact == .unknown
    | .actuator => s.elems[e].motion == .unknown
    | .absent => false

/-- The reported state is the one an action or a contactor set asks for. -/
def ContactState.is (x : ContactState) (c : Contact) : Bool :=
  match x, c with
  | .opened, .opened => true
  | .closed, .closed => true
  | _, _ => false

end Sys2Proof.Machine
end

