-- ==== Sys2Proof/Machine/Correlate.lean ====
section
/-! DEFINITION. The arithmetic of chapter 3: block sums, scaling, saturating accumulation, and the ratio and phase of a
closed window. Everything is exact integer arithmetic. -/

namespace Sys2Proof.Machine

/-! ### Block sums (R35, R41) -/

/-- I² + Q² of one sample. -/
def Sample.power (x : Sample) : Int := x.i.toInt * x.i.toInt + x.q.toInt * x.q.toInt

/-- R35, R41: the sum over a block of I² + Q². -/
def Block.power (b : Block) : Int := (b.samples.map Sample.power).sum

/-- R41: ΣRe of a reference block and a tower's block. -/
def crossRe (r k : Block) : Int :=
  (List.zipWith (fun x y : Sample => x.i.toInt * y.i.toInt + x.q.toInt * y.q.toInt) r.samples k.samples).sum

/-- R41: ΣIm of a reference block and a tower's block. -/
def crossIm (r k : Block) : Int :=
  (List.zipWith (fun x y : Sample => x.i.toInt * y.q.toInt - x.q.toInt * y.i.toInt) r.samples k.samples).sum

/-- R42: an arithmetic right shift by s places, which rounds toward negative infinity. -/
def scaled (s : Nat) (x : Int) : Int := x / 2 ^ s

/-! ### Accumulation (R43) -/

/-- 2^39 - 1, the largest value an accumulator holds. -/
def accumMax : Int := 549755813887

/-- -2^39, the least. -/
def accumMin : Int := -549755813888

/-- R43: a sum held within the accumulator. -/
def saturate (x : Int) : Int := if accumMax < x then accumMax else if x < accumMin then accumMin else x

/-- R43, steps 1 to 4: one paired block's scaled sums are added to a set. -/
def Accum.add (a : Accum) (re im p : Int) (overrange : Bool) : Accum :=
  { re := saturate (a.re + re)
    im := saturate (a.im + im)
    p := saturate (a.p + p)
    count := a.count + 1
    limit := a.limit || saturate (a.re + re) != a.re + re || saturate (a.im + im) != a.im + im ||
      saturate (a.p + p) != a.p + p
    overrange := a.overrange || overrange }

/-- R40, R41: a cross pairing of an entry's reference block and a tower's block. -/
def Accum.addCross (a : Accum) (s : Nat) (r k : Block) : Accum :=
  a.add (scaled s (crossRe r k)) (scaled s (crossIm r k)) (scaled s r.power) (r.overrange || k.overrange)

/-- R40: the reference block's pairing with itself. -/
def Accum.addSelf (a : Accum) (s : Nat) (r : Block) : Accum := a.add 0 0 (scaled s r.power) r.overrange

/-! ### Magnitude and ratio (R45, R47) -/

/-- The largest x, built from its bits from a given one downward, whose square is at most n. -/
def isqrtFrom (n : Nat) : Nat → Nat → Nat
  | 0, x => x
  | b + 1, x =>
    let y := x + 2 ^ b
    if y * y ≤ n then isqrtFrom n b y else isqrtFrom n b x

/-- floor(sqrt(n)). -/
def isqrt (n : Nat) : Nat := isqrtFrom n (Nat.log2 n / 2 + 1) 0

/-- R45: the magnitude of the cross sums. -/
def magnitude (re im : Int) : Nat := isqrt (re * re + im * im).toNat

/-- R47: the ratio of a window, clamped to 65535. -/
def ratioOf (mag p : Nat) : Nat := min ((10000 * mag + p / 2) / p) 65535

/-! ### Phase (R48)

The angle is found exactly. With w the point (Re, Im) at an angle θ of centidegrees, the point w^36000 has turned through
θ whole turns of 36000 centidegrees and a rest. Powering w by squaring and multiplying, and counting each
crossing of the direction 0, counts the whole turns of 36000 times the angle, which is the angle in centidegrees. -/

/-- A point with integer parts. -/
structure Point where
  re : Int
  im : Int
  deriving DecidableEq, Repr

/-- The product of two points as complex numbers. -/
def Point.mul (a b : Point) : Point := ⟨a.re * b.re - a.im * b.im, a.re * b.im + a.im * b.re⟩

/-- The point's angle, taken in 0..360° with 360° left out, is 180° or more. -/
def Point.low (a : Point) : Bool := decide (a.im < 0) || (decide (a.im = 0) && decide (a.re < 0))

/-- 1 where a condition holds. -/
def one (b : Bool) : Nat := if b then 1 else 0

/-- The two angles, each in 0..360° with 360° left out, sum to 360° or more. -/
def turns (a b : Point) : Bool :=
  if a.low && b.low then true
  else if !a.low && !b.low then false
  else
    let c := a.mul b
    -- one angle below 180° and one from 180°: the sum lies in 180°..540°, and passes 360° where the product is not low
    !c.low

/-- The bits of 36000 after its leading one, most significant first. -/
def bits36000 : List Bool :=
  [false, false, false, true, true, false, false, true, false, true, false, false, false, false, false]

/-- A power of z and the whole turns of its angle, through the bits of the exponent that are left. -/
def windFrom (z : Point) : List Bool → Point → Nat → Point × Nat
  | [], w, t => (w, t)
  | b :: bs, w, t =>
    let w2 := w.mul w
    let t2 := 2 * t + one w.low
    if b then windFrom z bs (w2.mul z) (t2 + one (turns w2 z)) else windFrom z bs w2 t2

/-- The angle of a point other than the origin, in centidegrees 0..36000, rounded to nearest. A half is rounded up
here; R48 rounds it away from zero. No point with integer parts has an angle of an odd number of half centidegrees
(its tangent is irrational), so no half arises. -/
def windCentidegrees (z : Point) : Nat :=
  let (w, t) := windFrom z bits36000 z 0
  t + one w.low

/-- The parts divided by their greatest common divisor, which leaves the angle. -/
def Point.reduced (z : Point) : Point :=
  let g := Int.gcd z.re z.im
  if g ≤ 1 then z else ⟨z.re / g, z.im / g⟩

/-- R48: the phase of the cross sums, -18000..17999. -/
def phaseOf (re im : Int) : Int :=
  if re = 0 ∧ im = 0 then 0
  else
    let n := windCentidegrees (Point.reduced ⟨re, im⟩)
    if n < 18000 then (n : Int) else (n : Int) - 36000

/-! ### Window close (R46 to R50) -/

/-- R46, R49, R50: the state of a closed window. -/
def windowState (a : Accum) (floor : Nat) : ReadingState :=
  if a.p < (floor : Int) then .noSignal else if a.limit || a.overrange then .clipped else .valid

/-- R44, steps 1 and 2: the reading that a closed window of a tower leaves. -/
def Reading.close (r : Reading) (a : Accum) (floor : Nat) (isRef : Bool) : Reading :=
  let st := windowState a floor
  { r with
    state := st
    ratio := if isRef then 10000 else if st = .noSignal then r.ratio else ratioOf (magnitude a.re a.im) a.p.toNat
    phase := if isRef then 0 else if st = .noSignal then r.phase else phaseOf a.re a.im
    closes := r.closes + 1
    age := 0 }

end Sys2Proof.Machine
end

