-- ==== Sys2Proof/Machine/Faults.lean ====
section
/-! DEFINITION. The Fault Unit (chapter 9): raising and recording a fault, ending and clearing records, the FAULT
line. The class reactions are in Machine/Reaction.lean. -/

namespace Sys2Proof.Machine

/-- R152: the sequencer's state with its phase or substatus. -/
def Part.situation (s : Part) : Situation :=
  match s.seq.mode with
  | .stopped => .stopped
  | .changing c => .changing c.phase
  | .inPattern => .inPattern s.seq.sub
  | .halted => .halted

/-- R152: the from- and to-pattern of the change in flight, absent when the sequencer is not CHANGING. -/
def Part.changePats (s : Part) : Option (Option Pat × Option Pat) :=
  s.change?.map fun c => (c.fromPat, c.toPat)

/-- R151: the condition faults; the others are event faults. -/
def FaultKind.isCondition : FaultKind → Bool
  | .txTrip | .fieldLinkDown | .towerStale | .elementSilent | .outOfTolerance | .stationLinkDown => true
  | _ => false

/-- R153: the fault list holds at most sixteen records. -/
def faultPlaces : Nat := 16

/-- R152: the record a raise creates. -/
def Part.newRecord (s : Part) (k : FaultKind) (o : FaultObject) (cls : FaultClass) (sit : Situation)
    (pats : Option (Option Pat × Option Pat)) : FaultRecord :=
  { kind := k, cls := cls, object := o, situation := sit, pats := pats, first := s.uptime, last := s.uptime,
    clock := s.clock.time, repeats := 0, active := cls != .d }

/-- R154: an ACTIVE record of the same kind and object. -/
def FaultRecord.matchesRaise (r : FaultRecord) (k : FaultKind) (o : FaultObject) : Bool :=
  r.active && r.kind == k && r.object == o

/-- R154: a raise repeats an ACTIVE record: its count, last uptime and, unless the raise is class D, its class. -/
def FaultRecord.again (r : FaultRecord) (now : Uptime) (cls : FaultClass) : FaultRecord :=
  { r with repeats := bump 255 r.repeats, last := now, cls := if cls = .d then r.cls else cls }

/-- R153: an ENDED class D record, which alone may be removed to make room. -/
def FaultRecord.replaceable (r : FaultRecord) : Bool := !r.active && r.cls == .d

/-- R153: the list and OVERFLOW once a raise that repeats no ACTIVE record has asked for a place. -/
def FaultUnit.place (u : FaultUnit) (r : FaultRecord) : FaultUnit :=
  let free := faultPlaces - u.records.length
  match r.cls with
  | .a => if 1 ≤ free then { u with records := u.records ++ [r] } else { u with overflow := true }
  | .b | .c => if 3 ≤ free then { u with records := u.records ++ [r] } else { u with overflow := true }
  | .d =>
    if 3 ≤ free then { u with records := u.records ++ [r] }
    else if u.records.any FaultRecord.replaceable then
      { u with records := u.records.eraseP FaultRecord.replaceable ++ [r] }
    else { u with overflow := true }

/-- R152 to R154: a raise is recorded: it repeats an ACTIVE record of its kind and object, or asks for a place. -/
def FaultUnit.record (u : FaultUnit) (now : Uptime) (r : FaultRecord) : FaultUnit :=
  if u.records.any (·.matchesRaise r.kind r.object) then
    { u with
      records := u.records.map fun x => if x.matchesRaise r.kind r.object then x.again now r.cls else x }
  else u.place r

/-- R150: a raise under a given situation: recorded at once, its reaction owed by the event in progress. -/
def Part.raiseUnder (s : Part) (k : FaultKind) (o : FaultObject) (cls : FaultClass) (sit : Situation)
    (pats : Option (Option Pat × Option Pat)) : Part :=
  (s.setFaults (s.faults.record s.uptime (s.newRecord k o cls sit pats))).setRaised
    (s.raised ++ [{ cls := cls, kind := k, situation := sit, pats := pats }])

/-- R150: a raise, with the sequencer state, phase and change record as they stand. -/
def Part.raise (s : Part) (k : FaultKind) (o : FaultObject) (cls : FaultClass) : Part :=
  s.raiseUnder k o cls s.situation s.changePats

/-- A raise for each of several objects, in the order given (R150). -/
def Part.raiseEach (s : Part) (k : FaultKind) (cls : FaultClass) (os : List FaultObject) : Part :=
  os.foldl (fun s o => s.raise k o cls) s

/-- R151: class B while CHANGING and class C otherwise. -/
def Part.classBC (s : Part) : FaultClass := if s.isChanging then .b else .c

/-- R151: class C in IN_PATTERN and class D otherwise. -/
def Part.classCD (s : Part) : FaultClass := if s.isInPattern then .c else .d

/-- R155: the ACTIVE records that satisfy a test end. An end of a class C record while IN_PATTERN sets the restore
count to 0 (R96). -/
def Part.endRecords (s : Part) (p : FaultRecord → Bool) : Part :=
  let ends := fun r : FaultRecord => r.active && p r
  let s' := s.setFaults
    { s.faults with records := s.faults.records.map fun r => if ends r then { r with active := false } else r }
  if s.isInPattern && s.faults.records.any (fun r => ends r && r.cls == .c) then
    s'.setSeq { s'.seq with restore := 0 }
  else s'

/-- R155: the ACTIVE record of a condition fault and object ends. -/
def Part.endCondition (s : Part) (k : FaultKind) (o : FaultObject) : Part :=
  s.endRecords fun r => r.kind == k && r.object == o

/-- R155: every ACTIVE event record of classes A to C ends. -/
def Part.endEventRecords (s : Part) : Part :=
  s.endRecords fun r => !r.kind.isCondition && r.cls != .d

/-- R96: a class C record is ACTIVE. -/
def Part.classCActive (s : Part) : Bool := s.faults.records.any fun r => r.active && r.cls == .c

/-- R161: every ENDED record is removed and OVERFLOW cleared. -/
def FaultUnit.clear (u : FaultUnit) : FaultUnit :=
  { records := u.records.filter (·.active), overflow := false }

/-- R162: a record of class A, B or C is ACTIVE, or the sequencer is HALTED. -/
def Part.faultLine (s : Part) : Bool :=
  (s.faults.records.any fun r => r.active && r.cls != .d) || s.isHalted

/-- R184: the sequencer is IN_PATTERN with substatus NORMAL. -/
def Part.inPatternLamp (s : Part) : Bool := s.seq.mode == .inPattern && s.seq.sub == .normal

/-- R162, R184: the FAULT line and the IN_PATTERN lamp follow the state the event leaves. -/
def Part.drivePins (s : Part) : Part := s.setPins { fault := s.faultLine, inPattern := s.inPatternLamp }

/-! ### Codes (R188, R190) -/

/-- R190: fault kinds are numbered 1 to 26 in the order of R151. -/
def FaultKind.code : FaultKind → Nat
  | .hotContact => 1
  | .rfInSwitch => 2
  | .contactDrift => 3
  | .contactTimeout => 4
  | .contactFault => 5
  | .setMismatch => 6
  | .muteTimeout => 7
  | .actuatorTimeout => 8
  | .actuatorStall => 9
  | .trimExhausted => 10
  | .settleTimeout => 11
  | .rampTimeout => 12
  | .revertIncomplete => 13
  | .txTrip => 14
  | .fieldLinkDown => 15
  | .towerStale => 16
  | .elementSilent => 17
  | .outOfTolerance => 18
  | .stationLinkDown => 19
  | .clippedWindow => 20
  | .sampleSequence => 21
  | .actuatorLimit => 22
  | .requestOverrun => 23
  | .requestDropped => 24
  | .aborted => 25
  | .clockInvalid => 26

/-- R190: class codes. -/
def FaultClass.code : FaultClass → Nat
  | .a => 1
  | .b => 2
  | .c => 3
  | .d => 4

/-- R190: source codes. -/
def Source.code : Source → Nat
  | .panel => 1
  | .mgmt => 2
  | .schedule => 3
  | .internal => 4

/-- R188: phase codes. -/
def Phase.code : Phase → Nat
  | .rampDown => 1
  | .muting => 2
  | .switching => 3
  | .presetting => 4
  | .rampToTrim => 5
  | .trimming => 6
  | .verifying => 7
  | .rampFinal => 8

/-- R188: the sequencer state's code. -/
def Situation.stateCode : Situation → Nat
  | .stopped => 0
  | .changing _ => 1
  | .inPattern _ => 2
  | .halted => 3

/-- R188: the phase-or-substatus code. -/
def Situation.phaseCode : Situation → Nat
  | .changing p => p.code
  | .inPattern .normal => 9
  | .inPattern .degraded => 10
  | _ => 0

/-- R190: the seven bytes of a clock time. -/
def Calendar.bytes (c : Calendar) : List Byte :=
  byte2 c.year ++ byte1 c.month ++ byte1 c.day ++ byte1 c.hour ++ byte1 c.minute ++ byte1 c.second

/-- R190: the two bytes of an object. The object value of a record without an object is not stated: a free value. -/
def FaultObject.bytes (o : FaultObject) (unstated : Byte) : List Byte :=
  match o with
  | .nothing => [0, unstated]
  | .tower t => byte1 1 ++ byte1 t.val
  | .element e => byte1 2 ++ byte1 e.val
  | .request s => byte1 3 ++ byte1 s.code

/-- R190: the 25 bytes of a fault record. `unstated` gives the bytes whose value the spec does not state: the object
value of no object, and the five bytes after year 0 of an absent clock time. -/
def FaultRecord.bytes (r : FaultRecord) (unstated : Nat → Byte) : List Byte :=
  byte1 r.kind.code ++ byte1 r.cls.code ++ r.object.bytes (unstated 0) ++
    byte1 r.situation.stateCode ++ byte1 r.situation.phaseCode ++
    (match r.pats with
      | some (f, t) => bytePat f ++ bytePat t
      | none => [254, 254]) ++
    byte4 r.first.toNat ++ byte4 r.last.toNat ++
    (match r.clock with
      | some c => c.bytes
      | none => [0, 0, unstated 1, unstated 2, unstated 3, unstated 4, unstated 5]) ++
    byte1 r.repeats ++ byteFlag (!r.active)

end Sys2Proof.Machine
end

