-- ==== Sys2Proof/Machine/Links.lean ====
section
/-! DEFINITION. The two ports (chapter 10): link state, forward queues, reply queue, output arbiters, REFUSED
frames, and the frames the part originates. -/

namespace Sys2Proof.Machine

/-! ### Frames the part originates (R188) -/

/-- R186: the kind code of each frame kind the part acts on. -/
inductive FrameKind where
  | blockStart
  | sample
  | state
  | elemCmd
  | power
  | txState
  | time
  | mgmtReq
  | mgmtReply
  | monitor
  | refused
  deriving DecidableEq, Repr

/-- R186: kind codes 1 to 11. -/
def FrameKind.code : FrameKind → Byte
  | .blockStart => 1
  | .sample => 2
  | .state => 3
  | .elemCmd => 4
  | .power => 5
  | .txState => 6
  | .time => 7
  | .mgmtReq => 8
  | .mgmtReply => 9
  | .monitor => 10
  | .refused => 11

/-- The transmitter's node. -/
def txNode : Byte := 24

/-- The station controller's node. -/
def controllerNode : Byte := 30

/-- R21: the BLOCK_START frame of a block index. -/
def blockStartFrame (i : BitVec 16) : Frame :=
  { dst := 31, src := 0, kind := FrameKind.blockStart.code, payload := byte2 i.toNat }

/-- R140: the part's POWER frame of a level. -/
def powerFrame (l : Nat) : Frame := { dst := txNode, src := 0, kind := FrameKind.power.code, payload := byte2 l }

/-- R188: the command code and position of an order. -/
def Order.bytes : Order → List Byte
  | .contact .opened => byte1 1 ++ byte2 0
  | .contact .closed => byte1 2 ++ byte2 0
  | .position p => byte1 3 ++ byte2 p

/-- R102: the part's ELEM_CMD frame of an order for an element. -/
def Part.orderFrame (s : Part) (e : Elem) (o : Order) : Frame :=
  { dst := BitVec.ofNat 8 (s.bank.elemNode e), src := 0, kind := FrameKind.elemCmd.code,
    payload := byte1 (s.bank.elemChannel e) ++ o.bytes }

/-- R171: the reasons of a REFUSED frame. -/
inductive RefusedReason where
  | state
  | guarded
  | notQuiet
  | busy
  deriving DecidableEq, Repr

/-- R188: REFUSED reasons are 1 STATE, 2 GUARD, 3 NOT_QUIET and 4 BUSY. -/
def RefusedReason.code : RefusedReason → Byte
  | .state => 1
  | .guarded => 2
  | .notQuiet => 3
  | .busy => 4

/-- R171: the REFUSED frame for a frame. -/
def refusedFrame (f : Frame) (r : RefusedReason) : Frame :=
  { dst := f.src, src := 0, kind := FrameKind.refused.code, payload := [f.kind, f.dst, r.code] }

/-- R169, R189: the known element that an ELEM_CMD frame names by its destination and channel. -/
def Part.addressed (s : Part) (f : Frame) : Option Elem :=
  match f.payload with
  | [] => none
  | b :: _ => if f.kind = FrameKind.elemCmd.code then s.bank.findElem f.dst.toNat (b.toNat % 16) else none

/-- R109: an ELEM_CMD frame that addresses a contactor. -/
def Part.addressesContactor (s : Part) (f : Frame) : Bool :=
  match s.addressed f with
  | some e => s.bank.elemKind e == .contactor
  | none => false

/-! ### Queues and discard counts (R170) -/

/-- Each forward queue and the reply queue hold at most eight frames (R170, R171). -/
def queuePlaces : Nat := 8

/-- R170: a frame is discarded at a full queue and counted at the port that received the original. -/
def Part.countDiscard (s : Part) (p : Port) : Part :=
  match p with
  | .field => s.setField { s.field with discards := bump 65535 s.field.discards }
  | .station => s.setStation { s.station with discards := bump 65535 s.station.discards }

/-! ### The Station Port's arbiter (R172, R174) -/

/-- A POWER frame for the transmitter. -/
def isPower (f : Frame) : Bool := f.kind == FrameKind.power.code && f.dst == txNode

/-- R149: a forwarded station POWER frame is withdrawn at its choice. -/
def Part.withdrawsPower (s : Part) (x : StationItem) : Bool :=
  isPower x.frame &&
    (s.ramp.inhibit || decide (s.licensedNow < payload16 x.frame.payload 0) || x.rampSince)

/-- R172, R174: the Station Port's choice. The part's POWER frame is held to the licensed level at its choice, which no
level that waits exceeds but in a reversion of a STOP (R149, R138; notes/assumptions/42.md). Where a station POWER frame is withdrawn (R149), the reply queue is empty,
so its REFUSED frame is the frame of the next choice, in the same event. -/
def Part.stationChoice (s : Part) : Part :=
  match s.station.replies with
  | f :: rest => s.setStation { s.station with replies := rest, sending := some f }
  | [] =>
    match s.station.power with
    | some l => s.setStation { s.station with power := none, sending := some (powerFrame (min l s.licensedNow)) }
    | none =>
      match s.station.monitor with
      | some f => s.setStation { s.station with monitor := none, sending := some f }
      | none =>
        match s.station.queue with
        | x :: rest =>
          s.setStation
            { s.station with
              queue := rest
              sending := some (if s.withdrawsPower x then refusedFrame x.frame .state else x.frame) }
        | [] => s

/-- R172: a frame handed to a Station Port that is not transmitting is chosen for. -/
def Part.stationKick (s : Part) : Part :=
  match s.station.sending with
  | none => s.stationChoice
  | some _ => s

/-- R171: a MGMT_REPLY or REFUSED frame is placed in the reply queue, or lost where it is full. -/
def Part.reply (s : Part) (f : Frame) : Part :=
  if s.station.replies.length < queuePlaces then
    (s.setStation { s.station with replies := s.station.replies ++ [f] }).stationKick
  else s

/-- R171: a REFUSED frame for a frame. -/
def Part.refuse (s : Part) (f : Frame) (r : RefusedReason) : Part := s.reply (refusedFrame f r)

/-- R140, R174: the part's POWER frame is handed over, in place of one that waits. -/
def Part.handPower (s : Part) (l : Nat) : Part :=
  (s.setStation { s.station with power := some l }).stationKick

/-- R174: a MONITOR frame is handed over, in place of one that waits; discarded while the port is DOWN. -/
def Part.handMonitor (s : Part) (f : Frame) : Part :=
  if s.station.link.up then (s.setStation { s.station with monitor := some f }).stationKick else s

/-- R170: a frame is placed in the station-bound queue. `origin` is the port that received the original. -/
def Part.queueStation (s : Part) (origin : Port) (f : Frame) : Part :=
  if s.station.queue.length < queuePlaces then
    (s.setStation
      { s.station with queue := s.station.queue ++ [{ frame := f, rampSince := false }] }).stationKick
  else s.countDiscard origin

/-! ### The Field Port's arbiter (R172, R173) -/

/-- R173: a part frame is sent if its command is in flight and, for a contactor, the guard holds (R109). -/
def Part.sendsCommand (s : Part) (c : PartFrame) : Bool :=
  (match s.elems[c.elem].command with
    | some k => k.origin == .part
    | none => false) &&
  (!c.order.isContact || s.guardHolds)

/-- R173, R109: a forwarded station frame is withdrawn at its choice. -/
def Part.withdrawsField (s : Part) (x : FieldItem) : Bool := s.addressesContactor x.frame && !s.guardHolds

/-- R109: a forwarded station contactor frame is withdrawn: its command is removed without a fault and its sender
told. A contactor's DEFERRED step waits on the guard, which fails here (R114). -/
def Part.withdrawField (s : Part) (x : FieldItem) : Part :=
  (match x.owner with
    | some e => s.modifyElem e fun r => { r with command := none }
    | none => s).refuse x.frame (if s.ramp.inhibit then .notQuiet else .state)

/-- R173: the choice from the field-bound queue. -/
def Part.chooseQueue : List FieldItem → Part → Part
  | [], s => s.setField { s.field with queue := [] }
  | x :: rest, s =>
    if s.withdrawsField x then Part.chooseQueue rest (s.withdrawField x)
    else s.setField { s.field with queue := rest, sending := some x.frame }

/-- R173: the choice from the part's ELEM_CMD frames, then the field-bound queue. -/
def Part.chooseCommand : List PartFrame → Part → Part
  | [], s => Part.chooseQueue s.field.queue (s.setField { s.field with commands := [] })
  | c :: rest, s =>
    if s.sendsCommand c then s.setField { s.field with commands := rest, sending := some c.frame }
    else Part.chooseCommand rest s

/-- R172, R173: the Field Port's choice. -/
def Part.fieldChoice (s : Part) : Part :=
  match s.field.blockStart with
  | some i => s.setField { s.field with blockStart := none, sending := some (blockStartFrame i) }
  | none => Part.chooseCommand s.field.commands s

/-- R172: a frame handed to a Field Port that is not transmitting is chosen for. -/
def Part.fieldKick (s : Part) : Part :=
  match s.field.sending with
  | none => s.fieldChoice
  | some _ => s

/-- R21, R173: a BLOCK_START is handed over, in place of one that waits. -/
def Part.handBlockStart (s : Part) (i : BitVec 16) : Part :=
  (s.setField { s.field with blockStart := some i }).fieldKick

/-- R109, R173: a part frame takes the place of the same element's frame that waits, else the last place. -/
def placeCommand : List PartFrame → PartFrame → List PartFrame
  | [], c => [c]
  | x :: l, c => if x.elem = c.elem then c :: l else x :: placeCommand l c

/-- R102: the ELEM_CMD frame of an order is handed to the Field Port's arbiter. -/
def Part.handCommand (s : Part) (e : Elem) (o : Order) : Part :=
  (s.setField
    { s.field with
      commands := placeCommand s.field.commands { elem := e, order := o, frame := s.orderFrame e o } }).fieldKick

/-- R170: a frame is placed in the field-bound queue, which has a place. -/
def Part.placeField (s : Part) (f : Frame) (owner : Option Elem) : Part :=
  (s.setField { s.field with queue := s.field.queue ++ [{ frame := f, owner := owner }] }).fieldKick

/-- R170: the field-bound queue has a place. -/
def Part.fieldRoom (s : Part) : Bool := decide (s.field.queue.length < queuePlaces)

/-- R170: a station frame that creates no command is placed in the field-bound queue. -/
def Part.queueField (s : Part) (f : Frame) : Part :=
  if s.fieldRoom then s.placeField f none else s.countDiscard .station

/-- The frames in the field-bound queue that an element's ended command owned own no command any more. -/
def Part.disown (s : Part) (e : Elem) : Part :=
  s.setField
    { s.field with
      queue := s.field.queue.map fun x => if x.owner = some e then { x with owner := none } else x }

/-- R172: a transmission ends, and the arbiter chooses the next frame. -/
def Part.endTransmission (s : Part) (p : Port) : Part :=
  match p with
  | .field =>
    match s.field.sending with
    | some _ => (s.setField { s.field with sending := none }).fieldChoice
    | none => s
  | .station =>
    match s.station.sending with
    | some _ => (s.setStation { s.station with sending := none }).stationChoice
    | none => s

/-! ### Link state (R164) -/

/-- R164: a port goes DOWN 20 ms after its last valid frame. -/
def linkTimeout : Nat := 20

/-- R164: a valid frame is received at a port. -/
def Part.linkAlive (s : Part) (p : Port) : Part :=
  let alive : Link := { up := true, deadline := some (after s.uptime linkTimeout) }
  match p with
  | .field =>
    let s' := s.setField { s.field with link := alive }
    if s.field.link.up then s' else s'.endCondition .fieldLinkDown .nothing
  | .station => s.setStation { s.station with link := alive }

/-- R164, R174: a port's link deadline expires. A MONITOR frame that waits when the Station Port goes DOWN is
discarded. -/
def Part.linkLost (s : Part) (p : Port) : Part :=
  match p with
  | .field => (s.setField { s.field with link := Link.down }).raise .fieldLinkDown .nothing s.classBC
  | .station =>
    (s.setStation { s.station with link := Link.down, monitor := none }).raise .stationLinkDown .nothing .d

end Sys2Proof.Machine
end

