-- ==== Sys2Proof/Machine/Monitor.lean ====
section
/-! DEFINITION. The monitor configuration and its restart (R33, R37, R38), and the state of the pairing and of the
readings that a restart, a promotion and an aging touch (R34, R52, R53). -/

namespace Sys2Proof.Machine

/-- R37: the configuration of pattern p. -/
def Bank.patternConfig (b : Bank) (p : Pat) : MonitorConfig :=
  { source := some p, refTower := b.patRef p, w := b.patW p, s := b.patS p,
    targets := some (Vector.ofFn (b.target p)) }

/-- R37: the configuration of the site record's idle parameters. -/
def Bank.idleConfig (b : Bank) : MonitorConfig :=
  { source := none, refTower := b.idleRef, w := b.idleW, s := b.idleS, targets := none }

/-- R37: W = 2^w. -/
def MonitorConfig.window (c : MonitorConfig) : Nat := 2 ^ c.w

/-- R38, step 3: a reading at a restart. -/
def Reading.restart (r : Reading) (isRef : Bool) : Reading :=
  { r with
    state := .pending
    ratio := if isRef then 10000 else r.ratio
    phase := if isRef then 0 else r.phase
    closes := 0
    age := 0
    inTol := false }

/-- R53: the towers whose reading is STALE, ascending. -/
def Part.staleTowers (s : Part) : List Tower := towers.filter fun t => s.table.readings[t].state == .stale

/-- R53: the TOWER_STALE record of each tower of a list ends. -/
def Part.endStale (s : Part) (ts : List Tower) : Part :=
  ts.foldl (fun s t => s.endCondition .towerStale (.tower t)) s

/-- R38, steps 1 to 5: a monitor restart from a configuration. -/
def Part.restartState (s : Part) (c : MonitorConfig) : Part :=
  (((s.setCorr { config := c, accums := Vector.replicate 12 Accum.clear }).setTable
      { s.table with
        readings := mapAll s.table.readings fun t r => r.restart (decide (t = c.refTower)) }).setStore
      { entries := s.store.entries.map fun e => { e with epoch := false }
        epochStart := s.timer.index + 1 }).setRound
      { s.round with coverage := [] }

/-- R121: a monitor restart sets every actuator's settle count to 0. A contactor's settle count is 0 throughout. -/
def Part.clearSettle (s : Part) : Part := s.setElems (mapAll s.elems fun _ r => { r with settleCount := 0 })

/-- R38: a monitor restart from a configuration, with the ends of the TOWER_STALE records (R53) and the settle counts
(R121). -/
def Part.restart (s : Part) (c : MonitorConfig) : Part :=
  ((s.endStale s.staleTowers).restartState c).clearSettle

/-- R38: a restart with the to-pattern's configuration. -/
def Part.restartPattern (s : Part) (p : Pat) : Part := s.restart (s.bank.patternConfig p)

/-- R38: a restart with the site record's idle parameters. -/
def Part.restartIdle (s : Part) : Part := s.restart s.bank.idleConfig

/-- R34: an entry keeps no block of a tower that is not installed. -/
def Entry.prune (e : Entry) (installed : Tower → Bool) : Entry :=
  { e with
    refBlock := if installed e.refTower then e.refBlock else none
    held := e.held.filter fun x => installed x.1
    combined := e.combined.filter installed }

/-- R53: TOWER_STALE is class C in IN_PATTERN and class D otherwise. -/
def Part.raiseStale (s : Part) (ts : List Tower) : Part :=
  s.raiseEach .towerStale s.classCD (ts.map FaultObject.tower)

end Sys2Proof.Machine
end

