-- ==== Sys2Proof/Machine/Ramp.lean ====
section
/-! DEFINITION. The Ramp Engine (chapter 8): orders, sends, completion, the licence clamp and the INHIBIT line. What a
completed ramp means to the sequencer is in Machine/Sequencer.lean. -/

namespace Sys2Proof.Machine

/-- |a - b| of two levels. -/
def levelGap (a b : Nat) : Nat := (a - b) + (b - a)

/-- ceil(n / d). -/
def ceilDiv (n d : Nat) : Nat := (n + d - 1) / d

/-- R141: the completion test of a ramp: L equals T, and the last report lies within the ramp tolerance of T. -/
def RampEngine.reached (r : RampEngine) : Bool :=
  r.inProgress && r.level == r.target &&
    match r.lastReported with
    | some x => decide (levelGap x r.target ≤ r.tolerance)
    | none => false

/-- R141: the ramp is completed. Its next send time goes with it (DEDUCED, notes/assumptions/16.md). -/
def RampEngine.finish (r : RampEngine) : RampEngine :=
  { r with inProgress := false, deadline := none, nextSend := none }

/-- R142: the ramp ends without completion, with T set to L. -/
def RampEngine.stop (r : RampEngine) : RampEngine :=
  { r with target := r.level, inProgress := false, deadline := none, nextSend := none }

/-- R142: a ramp in progress ends without completion. -/
def Part.endRamp (s : Part) : Part := s.setRamp s.ramp.stop

/-- R149: a ramp has been ordered since the POWER frames that wait in the station-bound queue were placed. -/
def Part.markPower (s : Part) : Part :=
  s.setStation
    { s.station with
      queue := s.station.queue.map fun x => if isPower x.frame then { x with rampSince := true } else x }

/-- R139, steps 1 to 5: a ramp is ordered. The completion test is the caller's. -/
def Part.orderRamp (s : Part) (level : Nat) : Part :=
  let t := min level s.licensedNow
  let l := s.ramp.level
  let step := s.bank.rampStep
  let interval := s.bank.rampInterval
  (s.setRamp
    { s.ramp with
      target := t
      inProgress := true
      deadline := some (after s.uptime ((ceilDiv (levelGap t l) step + 1) * interval + s.bank.rampGrace))
      nextSend := if t = l then none else some (after s.uptime interval)
      step := step
      interval := interval
      tolerance := s.bank.rampTolerance }).markPower

/-- R141: the completion test where no sequencer phase waits on the ramp. -/
def Part.testRamp (s : Part) : Part := if s.ramp.reached then s.setRamp s.ramp.finish else s

/-- R139: a ramp ordered in IN_PATTERN, with its completion test, which has no effect on the sequencer. -/
def Part.rampInPattern (s : Part) (level : Nat) : Part := (s.orderRamp level).testRamp

/-- R140: L moved toward T by at most a step, both held to the licensed level at the send. -/
def RampEngine.advance (r : RampEngine) (licensed : Nat) (now : Uptime) : RampEngine :=
  let t := min r.target licensed
  let moved :=
    if r.step < levelGap t r.level then (if r.level < t then r.level + r.step else r.level - r.step) else t
  let l := min moved licensed
  { r with target := t, level := l, nextSend := if l = t then none else some (after now r.interval) }

/-- R140: one send of the ramp in progress, at its next send time. -/
def Part.sendRamp (s : Part) : Part :=
  let r := s.ramp.advance s.licensedNow s.uptime
  (s.setRamp r).handPower r.level

/-- R138, R144: where a pattern governs, T is clamped to its licensed level; where L exceeds it, L drops to it at once
and a POWER frame goes out. -/
def Part.clampLicence (s : Part) : Part :=
  match s.governing with
  | none => s
  | some p =>
    let lic := s.tables.mem.licensedLevel p
    let s' := s.setRamp { s.ramp with target := min s.ramp.target lic, level := min s.ramp.level lic }
    if lic < s.ramp.level then s'.handPower lic else s'

/-- R145: INHIBIT is asserted, L forced to 0, any ramp ended, and a POWER frame carrying 0 handed over. -/
def Part.forceZero (s : Part) : Part :=
  (s.setRamp
    { s.ramp with
      level := 0, target := 0, inProgress := false, deadline := none, nextSend := none, inhibit := true }).handPower 0

/-- R83, R145: INHIBIT is released. -/
def Part.releaseInhibit (s : Part) : Part := s.setRamp { s.ramp with inhibit := false }

/-- R147: the class of TX_TRIP by the sequencer's state and phase. -/
def Part.tripClass (s : Part) : FaultClass :=
  match s.seq.mode with
  | .changing c =>
    match c.phase with
    | .rampToTrim | .trimming | .verifying | .rampFinal => .b
    | .rampDown | .muting | .switching | .presetting => .d
  | .inPattern => .c
  | .stopped | .halted => .d

/-- R147: an assertion of TX_TRIP is raised. -/
def Part.raiseTrip (s : Part) : Part := s.raise .txTrip .nothing s.tripClass

end Sys2Proof.Machine
end

