-- ==== Sys2Proof/Machine/Elements.lean ====
section
/-! DEFINITION. Commands (R102, R120), the steps of a switch list group (R113), and presets (R122). -/

namespace Sys2Proof.Machine

/-! ### Commands (R102) -/

/-- R102: the timeout of a command for an element, in ms. -/
def Bank.timeout (b : Bank) (e : Elem) : Order → Nat
  | .contact _ => b.operateTimeout e
  | .position _ => b.travelTimeout e

/-- R102, R105, R120: a command is recorded. It settles the expired request and clears an actuator's at-limit
flag. -/
def Part.recordCommand (s : Part) (e : Elem) (o : Origin) (x : Order) (preset : Bool) : Part :=
  s.modifyElem e fun r =>
    { r with
      command := some
        { origin := o, order := x, deadline := after s.uptime (s.bank.timeout e x), retries := 0, preset := preset }
      expired := none
      atLimit := r.atLimit && x.isContact }

/-- R102: a PART command is created and its frame handed over. -/
def Part.commandPart (s : Part) (e : Elem) (x : Order) (preset : Bool) : Part :=
  (s.recordCommand e .part x preset).handCommand e x

/-- R120: a target limited to pos_min..pos_max. -/
def Bank.limitPosition (b : Bank) (e : Elem) (p : Int) : Nat :=
  if p < (b.posMin e : Int) then b.posMin e
  else if (b.posMax e : Int) < p then b.posMax e
  else p.toNat

/-! ### Group steps (R113, step 3) -/

/-- R113, step 3: what a step of a group becomes while the guard holds. -/
def Part.stepOutcome (s : Part) (x : SwitchStep) : StepStatus :=
  if s.elems[x.elem].command.isSome then .deferred
  else if s.elems[x.elem].contact.is x.action then .complete
  else .commanded

/-- R113, step 3: a step is settled: it waits, it is done, or its contactor is commanded. -/
def Part.settleStep (s : Part) (x : SwitchStep) : StepStatus × Part :=
  match s.stepOutcome x with
  | .commanded => (.commanded, s.commandPart x.elem (.contact x.action) false)
  | o => (o, s)

/-- R113, step 3: the steps of a group are settled in list order. -/
def Part.settleSteps : List SwitchStep → Part → List StepStatus × Part
  | [], s => ([], s)
  | x :: xs, s =>
    let (o, s1) := s.settleStep x
    let (os, s2) := Part.settleSteps xs s1
    (o :: os, s2)

/-- R114: the group's dwell, in ms: ten times the largest dwell of its steps. -/
def groupDwell (g : List SwitchStep) : Nat := 10 * (g.map SwitchStep.dwell).foldl max 0

/-- R113: the current group index is set to the group's ordinal. -/
def Part.setGroup (s : Part) (k : Nat) : Part := s.modifyChange fun c => { c with group := k }

/-- R112: the engine returns to IDLE, abandoning any dwell and clearing the step statuses. -/
def Part.idleWalk (s : Part) : Part := s.setWalk { state := .idle, steps := [], dwellDeadline := none }

/-- R113 to R115: the walk goes on from a list of groups, the first of ordinal k. The flag says that the list is
done: the last group's dwell has ended. A group that completes at its start with a dwell of 0 is passed in the same
event. A WITHHELD group has its ordinal in the change record, as R113's step 1 comes before the guard, and no step
statuses; no step is PENDING between two events (notes/assumptions/15.md, notes/assumptions/45.md). -/
def Part.walkFrom : List (List SwitchStep) → Nat → Part → Bool × Part
  | [], _, s => (true, s)
  | g :: gs, k, s =>
    let s0 := s.setGroup k
    if !s0.guardHolds then (false, s0.setWalk { state := .withheld, steps := [], dwellDeadline := none })
    else
      let (os, s1) := Part.settleSteps g s0
      if os.all (· == .complete) then
        let dwell := groupDwell g
        if dwell = 0 then
          Part.walkFrom gs (k + 1) (s1.setWalk { state := .dwell, steps := os, dwellDeadline := none })
        else
          (false, s1.setWalk { state := .dwell, steps := os, dwellDeadline := some (after s1.uptime dwell) })
      else (false, s1.setWalk { state := .inGroup, steps := os, dwellDeadline := none })

/-! ### Presets (R122, R123) -/

/-- R122: a preset is needed. -/
def Part.presetNeeded (s : Part) (a : ActuatorEntry) : Bool :=
  match s.elems[a.elem].position with
  | none => true
  | some p => decide (s.bank.posDeadband a.elem < levelGap p a.preset)

/-- R122: an actuator entry's preset is commanded, deferred behind a command in flight, or not needed. -/
def Part.presetEntry (s : Part) (a : ActuatorEntry) : Part :=
  if s.presetNeeded a then
    if s.elems[a.elem].command.isSome then
      s.setTrim { s.trim with deferred := addElem s.trim.deferred a.elem }
    else s.commandPart a.elem (.position (s.bank.limitPosition a.elem a.preset)) true
  else s

/-- R122: the presets of a pattern's used actuator entries, in entry order. -/
def Part.presetAll (s : Part) (p : Pat) : Part :=
  (s.bank.actuatorEntries p).foldl Part.presetEntry s

/-- R123: a deferred preset is decided again once the deferring command has ended. -/
def Part.presetAgain (s : Part) (p : Pat) (e : Elem) : Part :=
  let s' := s.setTrim { s.trim with deferred := s.trim.deferred.filter (· ≠ e) }
  match (s'.bank.actuatorEntries p).find? fun a => a.elem == e with
  | some a => s'.presetEntry a
  | none => s'

end Sys2Proof.Machine
end

