-- ==== Sys2Proof/Machine/Sequencer.lean ====
section
/-! DEFINITION. The Change Sequencer's own course (chapter 5): the pending slot, the substatus, the phases and their
ends, and the acceptance of requests with its promotion. The class reactions that turn a change back are in
Machine/Reaction.lean. -/

namespace Sys2Proof.Machine

/-! ### The pending slot (R89, R90) -/

/-- R75, R89: REQUEST_DROPPED is recorded for a source, and ANY_OVERRUN set. -/
def Part.dropRequest (s : Part) (src : Source) : Part :=
  let s' := s.raise .requestDropped (.request src) .d
  s'.setSeq { s'.seq with anyOverrun := true }

/-- R89: REQUEST_OVERRUN is recorded for the displaced request's source, and ANY_OVERRUN set. -/
def Part.overrunRequest (s : Part) (src : Source) : Part :=
  let s' := s.raise .requestOverrun (.request src) .d
  s'.setSeq { s'.seq with anyOverrun := true }

/-- R90: the slot is emptied without taking it, with REQUEST_DROPPED recorded for its occupant. -/
def Part.emptySlot (s : Part) : Part :=
  match s.seq.slot with
  | none => s
  | some r => (s.setSeq { s.seq with slot := none }).dropRequest r.source

/-- R89: a request is offered to the slot while CHANGING. -/
def Part.offerSlot (s : Part) (r : Request) : Part :=
  let place := s.setSeq { s.seq with slot := some r }
  match s.seq.slot with
  | none => place
  | some o =>
    match o.source, r.source with
    | .schedule, .schedule => place
    | _, .schedule => s.dropRequest r.source
    | _, _ => place.overrunRequest o.source

/-! ### The substatus (R95, R96) -/

/-- R95, R160: the class C reaction: applied only in IN_PATTERN, where NORMAL becomes DEGRADED with a ramp to the
degraded level, and the restore count is set to 0. -/
def Part.degrade (s : Part) : Part :=
  match s.seq.mode, s.seq.sub with
  | .inPattern, .normal =>
    let s1 := s.setSeq { s.seq with sub := .degraded, restore := 0 }
    match s.seq.active with
    | some p => s1.rampInPattern (s1.bank.degradedLevel p)
    | none => s1
  | .inPattern, .degraded => s.setSeq { s.seq with restore := 0 }
  | .stopped, _ | .changing _, _ | .halted, _ => s

/-- R87 step 6, R159 step 5: the raises of an entry to IN_PATTERN, each class C: stale towers, silent elements, a held
TX_TRIP, and a Field Port still DOWN. Their order among one another is a DESIGN CHOICE (notes/assumptions/17.md). -/
def Part.raiseInPattern (s : Part) : Part :=
  let s1 := s.raiseEach .towerStale .c
    ((s.staleTowers.filter s.bank.installed).map FaultObject.tower)
  let s2 := s1.raiseEach .elementSilent .c ((elements.filter s1.silent).map FaultObject.element)
  let s3 := if s2.lines.txTrip then s2.raise .txTrip .nothing .c else s2
  if s3.field.link.up then s3 else s3.raise .fieldLinkDown .nothing .c

/-- R87, step 6: the raises of the entry, whose class C reaction is applied at this step. -/
def Part.settleInPattern (s : Part) : Part :=
  let owed := s.raised
  let s' := (s.setRaised []).raiseInPattern
  (if s'.raised.isEmpty then s' else s'.degrade).setRaised owed

/-! ### The ends of a change (R87, R88) -/

/-- R88: the change ends in STOPPED. `next` takes the pending slot. -/
def Part.enterStopped (next : Part → Part) (s : Part) : Part :=
  let byStop : Bool := match s.change? with
    | some c => decide (c.source = .panel) || decide (c.source = .mgmt)
    | none => false
  let s1 := s.forceZero
  let s2 := (s1.setSeq { s1.seq with mode := .stopped, active := none }).restartIdle
  next (if byStop then s2.endEventRecords else s2)

/-- R87: the change ends in IN_PATTERN NORMAL. `next` takes the pending slot. -/
def Part.enterInPattern (next : Part → Part) (p : Pat) (s : Part) : Part :=
  let s1 := s.setSeq
    { s.seq with mode := .inPattern, sub := .normal, active := some p, ootRun := 0, ootRaised := false, restore := 0 }
  next s1.endEventRecords.settleInPattern

/-! ### The phases (R78 to R87)

A phase is entered by the function of its name; each ends in the same event where its end condition already holds
(R78). `p` is the change's to-pattern. -/

/-- The phase of the change in flight is set. -/
def Part.setPhase (s : Part) (ph : Phase) : Part := s.modifyChange fun c => { c with phase := ph }

/-- The phase deadline of the change in flight is set. -/
def Part.setPhaseDeadline (s : Part) (d : Option Uptime) : Part :=
  s.modifyChange fun c => { c with phaseDeadline := d }

/-- R84: entry to TRIMMING from RAMP_TO_TRIM. -/
def Part.enterTrimming (p : Pat) (s : Part) : Part :=
  let s1 := (s.setPhase .trimming).restartPattern p
  s1.modifyChange fun c =>
    { c with settleDeadline := some (after s1.uptime (s1.bank.settleTimeout p)), verify := 0 }

/-- R83: entry to RAMP_TO_TRIM. A TX_TRIP still asserted is raised with class B (R147). -/
def Part.enterRampToTrim (p : Pat) (s : Part) : Part :=
  let s1 := s.setPhase .rampToTrim
  let s2 := s1.setTrim { s1.trim with deferred := [] }
  let s3 := if s2.lines.txTrip then s2.raiseTrip else s2
  let s4 := s3.releaseInhibit.orderRamp (s3.bank.trimLevel p)
  if s4.ramp.reached then (s4.setRamp s4.ramp.finish).enterTrimming p else s4

/-- R82: PRESETTING ends when no preset command is in flight and no preset is deferred. -/
def Part.endPresetting (p : Pat) (s : Part) : Part := if s.presetting then s else s.enterRampToTrim p

/-- R82, R138: entry to PRESETTING. -/
def Part.enterPresetting (p : Pat) (s : Part) : Part :=
  (((s.setPhase .presetting).restartPattern p).clampLicence.presetAll p).endPresetting p

/-- R117: the contactors whose reported state is not the one the contactor set of p requires, ascending. -/
def Part.mismatched (s : Part) (p : Pat) : List Elem :=
  s.bank.contactors.filter fun e => !(s.elems[e].contact.is (s.bank.required p e))

/-- R117: the end of the walk: the contactor set is verified. -/
def Part.verifySet (p : Pat) (s : Part) : Part :=
  let bad := s.mismatched p
  if bad.isEmpty then (s.idleWalk.setPhaseDeadline none).enterPresetting p
  else s.raiseEach .setMismatch .b (bad.map FaultObject.element)

/-- R113 to R117: the walk goes on from the group of ordinal k of the to-pattern's list. -/
def Part.walkOn (p : Pat) (k : Nat) (s : Part) : Part :=
  let (done, s') := Part.walkFrom ((groupsOf (s.bank.switchList p)).drop k) k s
  if done then s'.verifySet p else s'

/-- R81: entry to SWITCHING, with the phase deadline gone (R80). -/
def Part.enterSwitching (p : Pat) (s : Part) : Part :=
  let s1 := (s.setPhase .switching).setPhaseDeadline none
  s1.walkOn p ((s1.change?.map Change.group).getD 0)

/-- R80: entry to MUTING. -/
def Part.enterMuting (p : Pat) (s : Part) : Part :=
  let s1 := (s.setPhase .muting).forceZero
  let s2 := s1.setPhaseDeadline (some (after s1.uptime s1.bank.muteTimeout))
  if s2.table.quiet then s2.enterSwitching p else s2

/-- R79, R83, R87: the completion of a ramp is announced to the sequencer; outside the phases that wait on a ramp it
has no effect (R78). -/
def Part.rampCompleted (next : Part → Part) (s : Part) : Part :=
  match s.change? with
  | none => s
  | some c =>
    match c.phase, c.toPat with
    | .rampDown, none => s.enterStopped next
    | .rampDown, some p => s.enterMuting p
    | .rampToTrim, some p => s.enterTrimming p
    | .rampFinal, some p => s.enterInPattern next p
    | _, _ => s

/-- R141: the completion test of the ramp, its completion announced. -/
def Part.settleRamp (next : Part → Part) (s : Part) : Part :=
  if s.ramp.reached then (s.setRamp s.ramp.finish).rampCompleted next else s

/-- R87: entry to RAMP_FINAL. The settle deadline goes (R85). -/
def Part.enterRampFinal (next : Part → Part) (p : Pat) (s : Part) : Part :=
  let s1 := s.modifyChange fun c => { c with phase := .rampFinal, settleDeadline := none }
  (s1.orderRamp (s1.bank.operatingLevel p)).settleRamp next

/-- R79, R138: entry to RAMP_DOWN. At the start of a reversion the from-pattern comes to govern, and L is held to its
licensed level. -/
def Part.enterRampDown (next : Part → Part) (s : Part) : Part :=
  ((s.setPhase .rampDown).clampLicence.orderRamp 0).settleRamp next

/-- R78: the phases are entered from RAMP_DOWN onward, each where its entry condition holds. -/
def Part.enterPhases (next : Part → Part) (s : Part) : Part :=
  match s.change? with
  | none => s
  | some c =>
    match c.toPat with
    | none => if 0 < s.ramp.level then s.enterRampDown next else s.enterStopped next
    | some p =>
      if c.moves then if 0 < s.ramp.level then s.enterRampDown next else s.enterMuting p
      else s.enterPresetting p

/-! ### Acceptance (R75 to R77) -/

/-- R76: the state a contactor starts the acceptance walk from: absent where it differs from both. -/
def ContactState.known : ContactState → Option Contact
  | .opened => some .opened
  | .closed => some .closed
  | .unknown | .moving | .fault => none

/-- R76, step 2: the walk of a list over computed states: the states it leaves, and whether a step counted as a
move. -/
def acceptanceWalk : List SwitchStep → Vector (Option Contact) 40 → Bool → Vector (Option Contact) 40 × Bool
  | [], v, m => (v, m)
  | x :: xs, v, m =>
    acceptanceWalk xs (setAt v x.elem (some x.action)) (m || v[x.elem] != some x.action)

/-- R76: the walk of pattern p's list against the contactors' reported states. -/
def Part.acceptanceWalk (s : Part) (p : Pat) : Vector (Option Contact) 40 × Bool :=
  Machine.acceptanceWalk (s.bank.switchList p) (mapAll s.elems fun _ r => r.contact.known) false

/-- R76: a contactor must move. -/
def Part.movesNeeded (s : Part) (target : Option Pat) : Bool :=
  match target with
  | none => false
  | some p => (s.acceptanceWalk p).2

/-- R76: pattern p's contactor set is reachable. -/
def Part.reachable (s : Part) (p : Pat) : Bool :=
  let v := (s.acceptanceWalk p).1
  s.bank.contactors.all fun e => v[e] == some (s.bank.required p e)

/-- Every actuator's trim count is set to 0 and the exhausted marks are emptied (R133). -/
def Part.refillTrim (s : Part) : Part :=
  let s1 := s.setElems (mapAll s.elems fun _ r => { r with trimCount := 0 })
  s1.setTrim { s1.trim with exhausted := [] }

/-- R77: an accepted request starts a change. -/
def Part.startChange (next : Part → Part) (s : Part) (src : Source) (target : Option Pat) (adopted : Bool) : Part :=
  let c : Change :=
    { fromPat := s.seq.active
      toPat := target
      source := src
      kind := if target = s.seq.active then .reseat else .normal
      cause := none
      phase := .rampDown
      moves := s.movesNeeded target
      group := 0
      phaseDeadline := none
      settleDeadline := none
      verify := 0
      adopted := adopted }
  -- step 2: OUT_OF_TOLERANCE ends and the run is 0 as the sequencer leaves IN_PATTERN (R70)
  let s1 := if s.isInPattern then
      let s0 := s.endCondition .outOfTolerance .nothing
      s0.setSeq { s0.seq with ootRun := 0, ootRaised := false }
    else s
  -- steps 3 and 4
  let s2 := (s1.setMode (.changing c)).refillTrim
  let s3 := s2.setTrim { s2.trim with allowance := true }
  -- R142: a ramp in progress ends before the phases are entered; step 5
  s3.endRamp.enterPhases next

/-! ### Promotion (R9, R10) -/

/-- R10: an element's identity: its kind, unit node and channel. -/
def Bank.identity (b : Bank) (e : Elem) : Nat × Nat × Nat := (b.elemKindCode e, b.elemNode e, b.elemChannel e)

/-- R10, R64, R97, R101, R119: an element whose identity a promotion changes: its record is set to its reset values,
its command dropped without a fault, its silence ended, and it leaves the Trim Engine's sets. A dropped actuator
command abandons the round. -/
def Part.resetElement (s : Part) (e : Elem) : Part :=
  let s1 := if s.elems[e].actuatorInFlight then s.setRound { s.round with coverage := [] } else s
  let s2 := (s1.modifyElem e fun _ => ElemRecord.fresh).disown e
  let s3 := s2.setTrim
    { s2.trim with deferred := s2.trim.deferred.filter (· ≠ e), exhausted := s2.trim.exhausted.filter (· ≠ e) }
  s3.endCondition .elementSilent (.element e)

/-- R111: QUIET is lost: each contactor with a command in flight raises RF_IN_SWITCH. -/
def Part.raiseRfInSwitch (s : Part) : Part :=
  s.raiseEach .rfInSwitch .a (s.contactsInFlight.map FaultObject.element)

/-- R10: the installed towers changed. -/
def towersChanged (old new : Bank) : Bool :=
  decide (old.towerCount ≠ new.towerCount) ||
    new.installedTowers.any fun t => decide (old.tsuNode t ≠ new.tsuNode t)

/-- R10, R34, R36: what a change of the installed towers does. -/
def Part.retower (s : Part) : Part :=
  let b := s.bank
  let s1 := s.setTable { s.table with quietRuns := Vector.replicate 12 0 }
  let s2 := (s1.setStore { s1.store with entries := s1.store.entries.map fun e => e.prune b.installed }).restartIdle
  let s3 := s2.setTable { s2.table with quiet := s2.quietNow }
  if s2.table.quiet && !s3.table.quiet then s3.raiseRfInSwitch else s3

/-- R9: the staged bank is copied into the active bank, and R10 brings the state kept elsewhere into line. A change of
the schedule enable leaves an evaluation to be taken next (R181, R182). -/
def Part.promote (s : Part) : Part :=
  let old := s.bank
  let s1 := s.setTables { s.tables with mem := s.tables.mem.promote, staged := .clean }
  let s2 := (elements.filter fun e => old.identity e ≠ s1.bank.identity e).foldl Part.resetElement s1
  let s3 := if towersChanged old s2.bank then s2.retower else s2
  if old.scheduleEnable = s3.bank.scheduleEnable then s3 else s3.setSched { s3.sched with evalDue := true }

/-- R9: a promotion is withheld in IN_PATTERN where the staged record of the active pattern is not defined. -/
def Part.withholds (s : Part) : Bool :=
  s.isInPattern &&
    match s.seq.active with
    | some p => !(stagedBank s.tables.mem).patDefined p
    | none => false

/-- R75, check 3: the promotion is made. -/
def Part.promotes (s : Part) : Bool := s.tables.staged == .ready && !s.withholds

/-- R75: the refusals of the acceptance checks. -/
inductive Refused where
  | isLocal
  | isHalted
  | notDefined
  | unreachable
  deriving DecidableEq, Repr

/-- R75, checks 4 and 5 of a target, none for a stop. A pattern id outside 0..3 is not defined. -/
def Part.checkTarget (s : Part) (target : Option Nat) : Option Refused :=
  match target with
  | none => none
  | some n =>
    match patOf n with
    | none => some .notDefined
    | some p => if !s.bank.patDefined p then some .notDefined else if s.reachable p then none else some .unreachable

/-- What the acceptance checks give: the part after check 3, the refusal, and the tables-adopted flag. -/
structure Acceptance where
  part : Part
  refusal : Option Refused
  adopted : Bool

/-- R75: the five acceptance checks. -/
def Part.accept (s : Part) (src : Source) (target : Option Nat) : Acceptance :=
  if s.lines.localOn && src != .panel then { part := s, refusal := some .isLocal, adopted := false }
  else if s.isHalted then { part := s, refusal := some .isHalted, adopted := false }
  else
    let adopted := s.promotes
    let s' := if adopted then s.promote else s
    { part := s', refusal := s'.checkTarget target, adopted := adopted }

/-- R90: the slot is taken at the end of a change, as the last part of that event. The argument bounds how often one
event can take it: the slot is not filled again within an event, so a second taking finds it empty. -/
def Part.takeSlot : Nat → Part → Part
  | 0, s => s
  | n + 1, s =>
    match s.seq.slot with
    | none => s
    | some r =>
      let a := (s.setSeq { s.seq with slot := none }).accept r.source (r.target.map Fin.val)
      match a.refusal with
      | none => a.part.startChange (Part.takeSlot n) r.source r.target a.adopted
      | some _ => a.part.dropRequest r.source

/-- R90: the pending slot is taken. -/
def Part.slotTaken : Part → Part := Part.takeSlot 2

/-- R74, R75: a request that is to start now is accepted or refused; the caller replies or records. -/
def Part.startNow (s : Part) (src : Source) (target : Option Nat) : Acceptance :=
  let a := s.accept src target
  match a.refusal with
  | none => { a with part := a.part.startChange Part.slotTaken src (target.bind patOf) a.adopted }
  | some _ => a

/-- R74, R75, R89: a PANEL or SCHEDULE request, which has no reply. -/
def Part.raiseRequest (s : Part) (src : Source) (target : Option Pat) : Part :=
  if s.isChanging then s.offerSlot { source := src, target := target }
  else
    let a := s.startNow src (target.map Fin.val)
    match a.refusal with
    | none => a.part
    | some _ => a.part.dropRequest src

end Sys2Proof.Machine
end

