-- ==== Sys2Proof/Machine/Reaction.lean ====
section
/-! DEFINITION. The class reactions (R156 to R160): halting, reversion (R92) and the second failure, and the end of an
event, at which the reaction it owes is applied. -/

namespace Sys2Proof.Machine

/-- R92 step 4, R124: the Switch Engine and the Trim Engine stop the work of the change. -/
def Part.stopEngines (s : Part) : Part :=
  let s' := s.idleWalk
  s'.setTrim { s'.trim with deferred := [] }

/-- R93, R157: entry to HALTED. The slot is emptied while the change record still stands (DESIGN CHOICE,
notes/assumptions/18.md). A class A fault taken in HALTED changes nothing. -/
def Part.halt (s : Part) : Part :=
  if s.isHalted then s
  else
    let s1 := (s.emptySlot.endCondition .outOfTolerance .nothing).forceZero.stopEngines
    s1.setSeq { s1.seq with mode := .halted, active := none, ootRun := 0, ootRaised := false }

/-- R92, steps 1 and 2: the change record of a reversion. -/
def Change.reverted (c : Change) (b : Bank) (cause : Cause) : Change :=
  { c with
    fromPat := c.toPat
    toPat := match c.fromPat with
      | some p => if b.patDefined p then some p else none
      | none => none
    source := .internal
    kind := .revert
    cause := some cause
    group := 0
    verify := 0
    phaseDeadline := none
    settleDeadline := none
    adopted := false }

/-- R92, R142: a reversion starts. -/
def Part.revert (cause : Cause) (s : Part) : Part :=
  let s1 := s.modifyChange fun c => c.reverted s.bank cause
  let s2 := s1.emptySlot.stopEngines.refillTrim
  let s3 := s2.modifyChange fun c => { c with moves := s2.movesNeeded c.toPat }
  s3.endRamp.enterPhases Part.slotTaken

/-- R159: the phases whose second failure leaves the array in pattern. -/
def Phase.carrierUp : Phase → Bool
  | .rampToTrim | .trimming | .verifying | .rampFinal => true
  | .rampDown | .muting | .switching | .presetting => false

/-- R159: the phase at the raise is one of those. -/
def Situation.carrierUp : Situation → Bool
  | .changing p => p.carrierUp
  | _ => false

/-- R159: the reversion is given up in IN_PATTERN DEGRADED with REVERT_INCOMPLETE. -/
def Part.giveUp (r : Raised) (p : Pat) (s : Part) : Part :=
  let s1 := s.setSeq
    { s.seq with mode := .inPattern, sub := .degraded, active := some p, ootRun := 0, ootRaised := false, restore := 0 }
  let s2 := (s1.rampInPattern (s1.bank.degradedLevel p)).emptySlot
  (s2.raiseUnder .revertIncomplete .nothing .c r.situation r.pats).raiseInPattern

/-- R159: a second failure. -/
def Part.secondFailure (r : Raised) (c : Change) (s : Part) : Part :=
  match c.toPat with
  | none => s.halt
  | some p => if r.situation.carrierUp then s.giveUp r p else s.halt

/-- R158, R159: the class B reaction, which meets a change in flight. Where the change itself has ended within the event
(a TRIM_EXHAUSTED of VERIFYING whose round completes it) nothing is turned back, or the change that was taken from the
slot in the event is (notes/assumptions/47.md). -/
def Part.turnBack (r : Raised) (s : Part) : Part :=
  match s.change? with
  | none => s
  | some c =>
    match c.kind with
    | .revert => s.secondFailure r c
    | .normal | .reseat => s.revert (.fault r.kind)

/-- R156: the first raise of a class that the event owes a reaction for. R158 takes a reversion's cause from the first
class B fault recorded; where the first raised finds no place in the list it gives the cause all the same, and R159's phase
(DESIGN CHOICE, notes/assumptions/52.md). -/
def Part.firstOwed (s : Part) (cls : FaultClass) : Option Raised := s.raised.find? fun r => r.cls == cls

/-- R156: the reaction of the highest class raised is applied, once. -/
def Part.reactOnce (s : Part) : Part :=
  let s' := s.setRaised []
  match s.firstOwed .a, s.firstOwed .b, s.firstOwed .c with
  | some _, _, _ => s'.halt
  | none, some r, _ => s'.turnBack r
  | none, none, some _ => s'.degrade
  | none, none, none => s'

/-- R150, R156: the reactions an event owes. Raises that a reaction itself makes are reacted to in turn (DESIGN CHOICE,
notes/assumptions/14.md): at most a reversion, a second failure and a class C reaction follow one another. -/
def Part.react : Nat → Part → Part
  | 0, s => s.setRaised []
  | n + 1, s => if s.raised.isEmpty then s else Part.react n s.reactOnce

/-- R150: the reactions that the event owes so far are applied. -/
def Part.settle (s : Part) : Part := Part.react 4 s

/-- R150, R162, R184: an event: its steps, the reaction it owes, and the lines it leaves. Nothing is owed from an
earlier event. A part held in reset by RESET_N takes no event (R8). -/
def Part.event (op : Part → Part) (s : Part) : Part :=
  if s.held then s else (op (s.setRaised [])).settle.drivePins

end Sys2Proof.Machine
end

