-- ==== Sys2Proof/Machine/Resets.lean ====
section
/-! DEFINITION. Cold and warm resets (R5, R8, R163, R178, R183) and what the end of a reset does (R137, R147). -/

namespace Sys2Proof.Machine

/-- R5: the licence region a cold reset leaves: a block whose write was in flight keeps the contents it held before. -/
def Tables.coldMemory (t : Tables) : Memory :=
  (match t.licenceWrite with
    | some w => t.mem.writeBytes (blockAddr w.block.val) w.old
    | none => t.mem).licenceOnly

/-- R8: a cold reset. The input lines keep their levels, which the end of the reset reads. `held`: RESET_N stays
asserted. -/
def Part.coldReset (held : Bool) (s : Part) : Part :=
  { Part.cold with
    held := held
    lines := s.lines
    tables := { mem := s.tables.coldMemory, licenceWrite := none, staged := .clean }
    free := s.free }

/-- R137, R147: the end of a reset: a TX_TRIP line that is asserted counts as an assertion, and a POWER frame carrying 0
is handed over. -/
def Part.endReset (s : Part) : Part :=
  (if s.lines.txTrip then s.raiseTrip else s).handPower 0

/-- A deadline that stays as far ahead when the uptime counter is set to 0 (R178, R179). -/
def rebase (now d : Uptime) : Uptime := BitVec.ofNat 32 (remaining now d)

/-- R163, R164, R53, R101: the condition records that a warm reset ends. -/
def FaultUnit.afterWarmReset (u : FaultUnit) : FaultUnit :=
  { u with
    records := u.records.map fun r =>
      if r.kind = .towerStale ∨ r.kind = .elementSilent ∨ r.kind = .fieldLinkDown then { r with active := false }
      else r }

/-- R178: a warm reset, up to its end: what is kept (both banks with the staged state, the schedule, the licence region
with its write in flight, the running clock, the fault list, the in-force and last raised patterns), everything else as
at a cold reset, the monitor restarted with the idle parameters of the kept bank (R38), and QUIET by the kept tables
(R36). -/
def Part.warmReset (s : Part) : Part :=
  let s1 : Part :=
    { Part.cold with
      lines := s.lines
      tables :=
        { s.tables with
          licenceWrite := s.tables.licenceWrite.map fun w => { w with deadline := rebase s.uptime w.deadline } }
      table := { Part.cold.table with readings := Vector.replicate 12 Reading.fresh }
      faults := s.faults.afterWarmReset
      clock := { s.clock with second := s.clock.second.map (rebase s.uptime) }
      sched := { s.sched with owed := false }
      free := s.free }
  let s2 := s1.restartIdle
  s2.setTable { s2.table with quiet := s2.quietNow }

end Sys2Proof.Machine
end

