-- ==== Sys2Proof/Machine/Schedule.lean ====
section
/-! DEFINITION. The calendar clock (R180) and the Scheduler (R181, R182). -/

namespace Sys2Proof.Machine

/-! ### The calendar clock (R180) -/

/-- R180: the length of a month; in 2000..2099 divisibility by 4 is the whole leap-year rule. -/
def daysIn (year month : Nat) : Nat :=
  match month with
  | 2 => if year % 4 = 0 then 29 else 28
  | 4 | 6 | 9 | 11 => 30
  | _ => 31

/-- R180: the fields of a date and time lie within their ranges. -/
def Calendar.valid (c : Calendar) : Bool :=
  decide (2000 ≤ c.year) && decide (c.year ≤ 2099) && decide (1 ≤ c.month) && decide (c.month ≤ 12) &&
    decide (1 ≤ c.day) && decide (c.day ≤ daysIn c.year c.month) && decide (c.hour ≤ 23) &&
    decide (c.minute ≤ 59) && decide (c.second ≤ 59)

/-- R188: the date and time that a TIME payload carries. -/
def calendarOf (payload : List Byte) : Calendar :=
  { year := payload16 payload 0, month := payload8 payload 2, day := payload8 payload 3,
    hour := payload8 payload 4, minute := payload8 payload 5, second := payload8 payload 6 }

/-- The first second of the day after. -/
def Calendar.nextDay (c : Calendar) : Calendar :=
  let c0 := { c with hour := 0, minute := 0, second := 0 }
  if c.day < daysIn c.year c.month then { c0 with day := c.day + 1 }
  else if c.month < 12 then { c0 with day := 1, month := c.month + 1 }
  else { c0 with day := 1, month := 1, year := c.year + 1 }

/-- R180: the time one second later. -/
def Calendar.tick (c : Calendar) : Calendar :=
  if c.second < 59 then { c with second := c.second + 1 }
  else if c.minute < 59 then { c with second := 0, minute := c.minute + 1 }
  else if c.hour < 23 then { c with second := 0, minute := 0, hour := c.hour + 1 }
  else c.nextDay

/-- R180: the one-second timer's interval. -/
def secondTime : Nat := 1000

/-- R181: the current minute of the day. -/
def Calendar.minuteOfDay (c : Calendar) : Nat := 60 * c.hour + c.minute

/-! ### The schedule (R181, R182) -/

/-- R181: the pattern of the transition with the largest minute; among equal minutes, the higher pattern id. -/
def latest : List (Nat × Pat) → Option (Nat × Pat)
  | [] => none
  | x :: l =>
    match latest l with
    | none => some x
    | some y => if y.1 < x.1 ∨ (y.1 = x.1 ∧ y.2 < x.2) then some x else some y

/-- R181: the month of the previous day. -/
def Calendar.previousMonth (c : Calendar) : Nat :=
  if 1 < c.day then c.month else if c.month = 1 then 12 else c.month - 1

/-- R181: the in-force pattern of the schedule at a time. -/
def Memory.inForce (m : Memory) (c : Calendar) : Option Pat :=
  match latest ((m.transitions c.month).filter fun x => decide (x.1 ≤ c.minuteOfDay)) with
  | some x => some x.2
  | none => (latest (m.transitions c.previousMonth)).map Prod.snd

/-- R181: the in-force pattern is found again; it is NONE with the clock UNSET. -/
def Part.findInForce (s : Part) : Part :=
  s.setSched { s.sched with inForce := s.clock.time.bind s.tables.mem.inForce }

/-- R182: what the Scheduler does after an evaluation. -/
def Part.scheduleActs (s : Part) : Part :=
  if !s.bank.scheduleEnable then s.setSched { s.sched with owed := false }
  else
    match s.sched.inForce with
    | none => s
    | some p =>
      if s.sched.lastRaised = some p then s
      else if s.lines.localOn then s.setSched { s.sched with owed := true, lastRaised := some p }
      else (s.setSched { s.sched with lastRaised := some p }).raiseRequest .schedule (some p)

/-- R181, R182: an evaluation. -/
def Part.evaluate (s : Part) : Part := s.findInForce.scheduleActs

/-- R182: an evaluation at a release of LOCAL with the owed flag set: the flag is cleared, and a request is raised where
the in-force pattern differs from the active pattern. -/
def Part.evaluateOwed (s : Part) : Part :=
  let s1 := s.setSched { s.sched with owed := false }
  let s2 := s1.findInForce
  if !s2.bank.scheduleEnable then s2
  else
    match s2.sched.inForce with
    | none => s2
    | some p =>
      if s2.seq.active = some p then s2
      else (s2.setSched { s2.sched with lastRaised := some p }).raiseRequest .schedule (some p)

/-- R180: a TIME payload taken. -/
def Part.takeTime (s : Part) (payload : List Byte) : Part :=
  if payload.length = 7 ∧ (calendarOf payload).valid = true then
    (s.setClock { time := some (calendarOf payload), second := some (after s.uptime secondTime) }).evaluate
  else s.raise .clockInvalid .nothing .d

/-- R180, R181: the one-second timer of a SET clock expires, at d; its next expiry is 1000 ms on. An advance that changes
the minute is evaluated, the one past 2099, which leaves the clock UNSET, among them. -/
def Part.advanceClock (s : Part) (c : Calendar) (d : Uptime) : Part :=
  let c' := c.tick
  if 2099 < c'.year then ((s.setClock { time := none, second := none }).raise .clockInvalid .nothing .d).evaluate
  else
    let s' := s.setClock { time := some c', second := some (after d secondTime) }
    if c'.minute = c.minute then s' else s'.evaluate

end Sys2Proof.Machine
end

