-- ==== Sys2Proof/Machine/Validate.lean ====
section
/-! DEFINITION. COMMIT validation (R12 to R19, R191): the violations of a bank, each with its location as a
bank-relative byte position, and the one that is reported. -/

namespace Sys2Proof.Machine

/-- R18: the reasons, in the order of its table. -/
inductive Reason where
  | range
  | towerCount
  | nodeClash
  | elementKind
  | elementLimit
  | groupOrder
  | listRepeat
  | listFinal
  | actuatorTwice
  | presetRange
  | refRole
  | tolOverLicence
  | levelOverLicence
  | levelOrder
  deriving DecidableEq, Repr

/-- R190: validation reasons are numbered 1 to 14 in the order of R18. -/
def Reason.code : Reason → Nat
  | .range => 1
  | .towerCount => 2
  | .nodeClash => 3
  | .elementKind => 4
  | .elementLimit => 5
  | .groupOrder => 6
  | .listRepeat => 7
  | .listFinal => 8
  | .actuatorTwice => 9
  | .presetRange => 10
  | .refRole => 11
  | .tolOverLicence => 12
  | .levelOverLicence => 13
  | .levelOrder => 14

/-- A violation: its location, a byte position from the start of the bank, and its reason (R19). -/
structure Violation where
  pos : Nat
  reason : Reason
  deriving DecidableEq, Repr

/-- A check: a violation where it fails. -/
def check (ok : Bool) (pos : Nat) (r : Reason) : List Violation := if ok then [] else [{ pos := pos, reason := r }]

/-- A field lies within lo..hi. -/
def within (lo hi n : Nat) : Bool := decide (lo ≤ n) && decide (n ≤ hi)

/-- R12: the fields of the site record, under a tower count in range. -/
def Bank.checkSite (b : Bank) : List Violation :=
  let n := b.towerCount
  (b.installedTowers.flatMap fun t =>
    check (within 1 15 (b.tsuNode t)) (1 + t.val) .range ++
    check (!(within 1 15 (b.tsuNode t)) || !(b.installedTowers.any fun u => decide (u < t) && b.tsuNode u == b.tsuNode t))
      (1 + t.val) .nodeClash ++
    check (within 0 1 (b.u8 (33 + t.val))) (33 + t.val) .range) ++
  check (within 1 549755813887 b.signalFloor) 18 .range ++
  check (decide (b.u8 23 < n)) 23 .range ++
  check (within 2 8 b.idleW) 24 .range ++
  check (within 0 7 b.idleS) 25 .range ++
  check (within 1 1000 b.rampStep) 26 .range ++
  check (within 1 255 (b.u8 28)) 28 .range ++
  check (within 1 100 b.rampTolerance) 29 .range ++
  check (within 100 10000 b.muteTimeout) 31 .range ++
  check (within 0 1 (b.u8 45)) 45 .range ++
  (List.range 16).flatMap fun k =>
    check (within 0 3 (b.reportQuantity k)) (47 + 2 * k) .range ++
    check (!(within 1 3 (b.reportQuantity k)) || decide (b.u8 (46 + 2 * k) < n)) (46 + 2 * k) .range

/-- A kind code of a contactor or an actuator. -/
def Bank.isElement (b : Bank) (e : Elem) : Bool := within 1 2 (b.elemKindCode e)

/-- R13: how many entries of a kind code stand before an index. -/
def Bank.before (b : Bank) (code : Nat) (e : Elem) : Nat :=
  (elements.filter fun f => decide (f < e) && b.elemKindCode f == code).length

/-- R13, R191: one element entry. -/
def Bank.checkElement (b : Bank) (e : Elem) : List Violation :=
  let a := elemAddr e
  let code := b.elemKindCode e
  check (code != 3) a .range ++
  (if b.isElement e then
    let nodeOk := within 16 23 (b.elemNode e)
    check nodeOk (a + 1) .range ++
    check (!nodeOk || !(elements.any fun f =>
        decide (f < e) && b.isElement f && b.elemNode f == b.elemNode e && b.elemChannel f == b.elemChannel e))
      a .nodeClash ++
    check (within 1 255 (b.u8 (a + 2))) (a + 2) .range
  else []) ++
  (if code = 1 then check (decide (b.before 1 e < 32)) a .elementLimit
  else if code = 2 then
    check (decide (b.posMin e ≤ b.posMax e)) (a + 6) .range ++
    check (decide (b.before 2 e < 16)) a .elementLimit
  else [])

/-- R15: tower entry t of pattern p, under its licence block. The reference tower's entry is checked for its role
alone. -/
def Bank.checkTarget (b : Bank) (m : Memory) (p : Pat) (t : Tower) : List Violation :=
  let a := targetAddr p t
  let x := b.target p t
  check (within 1 2 (b.u8 a)) a .range ++
  (if b.u8 a = 1 ∧ b.u8 (patAddr p + 1) ≠ t.val then
    let rt := within 1 200 x.ratioTol
    let pt := within 1 3000 x.phaseTol
    check (within 1 65535 x.ratio) (a + 1) .range ++
    check (decide (-18000 ≤ x.phase) && decide (x.phase ≤ 17999)) (a + 3) .range ++
    check rt (a + 5) .range ++
    check (!rt || decide (x.ratioTol ≤ m.licensedRatioTol p t)) (a + 5) .tolOverLicence ++
    check pt (a + 6) .range ++
    check (!pt || decide (x.phaseTol ≤ m.licensedPhaseTol p t)) (a + 6) .tolOverLicence
  else [])

/-- R16: actuator entry k of pattern p. -/
def Bank.checkActuator (b : Bank) (p : Pat) (k : Nat) : List Violation :=
  let a := actuatorAddr p k
  let i := b.u8 a
  if i = 255 then []
  else
    check (decide (i < 40)) a .range ++
    (if i < 40 then
      let e := elemOf i
      check (b.elemKindCode e == 2) a .elementKind ++
      check (!((List.range k).any fun j => b.u8 (actuatorAddr p j) == i)) a .actuatorTwice ++
      check (within (b.posMin e) (b.posMax e) (b.u16 (a + 10))) (a + 10) .presetRange
    else []) ++
    check (decide (b.u8 (a + 1) < b.towerCount) && b.u8 (a + 1) != b.u8 (patAddr p + 1)) (a + 1) .range ++
    check (within 1 2 (b.u8 (a + 2))) (a + 2) .range ++
    check (b.u8 (a + 3) == 1 || b.u8 (a + 3) == 255) (a + 3) .range ++
    check (within 0 4095 (b.u16 (a + 4))) (a + 4) .range ++
    check (within 0 1000 (b.u16 (a + 6))) (a + 6) .range ++
    check (within 1 4095 (b.u16 (a + 8))) (a + 8) .range

/-- R17: step k of switch list p, which has `count` steps. -/
def Bank.checkStep (b : Bank) (p : Pat) (count k : Nat) : List Violation :=
  let at' := fun j => switchAddr p + 4 + 4 * j
  let a := at' k
  let i := b.u8 a
  let g := b.u8 (a + 2)
  let g0 := b.u8 (at' (k - 1) + 2)
  let earlier := ((List.range k).filter fun j => b.u8 (at' j) == i).length
  let later := (List.range count).any fun j => decide (k < j) && b.u8 (at' j) == i
  check (decide (i < 40)) a .range ++
  (if i < 40 then
    check (b.elemKindCode (elemOf i) == 1) a .elementKind ++
    check (decide (earlier < 2)) a .listRepeat ++
    check (later || !(within 1 2 (b.u8 (a + 1))) || b.required p (elemOf i) == (b.switchStep p k).action) a .listFinal
  else []) ++
  check (within 1 2 (b.u8 (a + 1))) (a + 1) .range ++
  check (within 0 63 g) (a + 2) .range ++
  check (decide (k = 0) || decide (63 < g) || decide (63 < g0) || decide (g0 ≤ g)) (a + 2) .groupOrder

/-- R14: the header of pattern p after its defined flag. -/
def Bank.checkHeader (b : Bank) (m : Memory) (p : Pat) : List Violation :=
  let a := patAddr p
  let op := b.operatingLevel p
  let ref := b.u8 (a + 1)
  check (decide (ref < b.towerCount)) (a + 1) .range ++
  check (!(decide (ref < b.towerCount)) || b.u8 (targetAddr p (towerOf ref)) != 2) (a + 1) .refRole ++
  check (within 0 1000 op) (a + 2) .range ++
  check (decide (1000 < op) || decide (op ≤ m.licensedLevel p)) (a + 2) .levelOverLicence ++
  check (within 0 1000 (b.trimLevel p)) (a + 4) .range ++
  check (decide (1000 < op) || decide (1000 < b.trimLevel p) || decide (b.trimLevel p ≤ op)) (a + 4) .levelOrder ++
  check (within 0 1000 (b.degradedLevel p)) (a + 6) .range ++
  check (decide (1000 < op) || decide (1000 < b.degradedLevel p) || decide (b.degradedLevel p ≤ op)) (a + 6)
    .levelOrder ++
  check (within 2 8 (b.patW p)) (a + 8) .range ++
  check (within 0 7 (b.patS p)) (a + 9) .range ++
  check (within 1 15 (b.verifyRounds p)) (a + 10) .range ++
  check (within 1 7 (b.settleWindows p)) (a + 11) .range ++
  check (within 1 255 (b.trimLimit p)) (a + 12) .range ++
  check (within 1 600 (b.u16 (a + 13))) (a + 13) .range ++
  check (within 1 255 (b.ootGrace p)) (a + 15) .range ++
  check (within 0 1 (b.u8 (a + 16))) (a + 16) .range

/-- R14 to R17: pattern record p and its switch list. -/
def Bank.checkPattern (b : Bank) (m : Memory) (p : Pat) : List Violation :=
  let count := b.u8 (switchAddr p)
  check (within 0 1 (b.u8 (patAddr p))) (patAddr p) .range ++
  (if b.patDefined p then
    b.checkHeader m p ++
    b.installedTowers.flatMap (b.checkTarget m p) ++
    (List.range 16).flatMap (b.checkActuator p) ++
    check (within 0 63 count) (switchAddr p) .range ++
    (if count ≤ 63 then (List.range count).flatMap (b.checkStep p count) else [])
  else [])

/-- R18, R19: every violation of a bank. A tower count outside 2..12 ends validation at once. -/
def Bank.violations (b : Bank) (m : Memory) : List Violation :=
  if within 2 12 b.towerCount then
    b.checkSite ++ elements.flatMap b.checkElement ++ (List.finRange 4).flatMap (b.checkPattern m)
  else [{ pos := 0, reason := .towerCount }]

/-- R19: one violation is reported before another: by location, then by reason. -/
def Violation.earlier (x y : Violation) : Bool :=
  decide (x.pos < y.pos) || (decide (x.pos = y.pos) && decide (x.reason.code ≤ y.reason.code))

/-- R19: the violation that is reported. -/
def lowest : List Violation → Option Violation
  | [] => none
  | x :: l =>
    match lowest l with
    | none => some x
    | some y => if x.earlier y then some x else some y

/-- R18: validation of the staged bank against itself and the licence region. -/
def Memory.validate (m : Memory) : Option Violation := lowest ((stagedBank m).violations m)

end Sys2Proof.Machine
end

