-- ==== Sys2Proof/Machine/Tracker.lean ====
section
/-! DEFINITION. The Element Tracker and the Switch Engine in action (chapter 6): the end of a command and its
announcements, STATE entries, silence, command deadlines, the walk, and QUIET's changes. -/

namespace Sys2Proof.Machine

/-! ### The walk in progress (R114 to R116) -/

/-- The group in progress of pattern p's list. -/
def Part.groupNow (s : Part) (p : Pat) (c : Change) : List SwitchStep :=
  ((groupsOf (s.bank.switchList p))[c.group]?).getD []

/-- R114, R115: once every step of the group is COMPLETE the group completes and its dwell runs; a dwell of 0 ends in
the same event. -/
def Part.groupTest (p : Pat) (c : Change) (s : Part) : Part :=
  if s.walk.steps.all (· == .complete) then
    let dwell := groupDwell (s.groupNow p c)
    if dwell = 0 then (s.setWalk { s.walk with state := .dwell }).walkOn p (c.group + 1)
    else s.setWalk { s.walk with state := .dwell, dwellDeadline := some (after s.uptime dwell) }
  else s

/-- R114: the COMMANDED step of a contactor whose command has completed is COMPLETE. -/
def completeStep (e : Elem) (x : SwitchStep) (o : StepStatus) : StepStatus :=
  if x.elem = e ∧ o = .commanded then .complete else o

/-- R114: the earliest DEFERRED step of a contactor is settled, if the guard holds. -/
def Part.settleEarliest (e : Elem) : List SwitchStep → List StepStatus → Part → List StepStatus × Part
  | x :: xs, o :: os, s =>
    if x.elem = e ∧ o = .deferred then
      if s.guardHolds then
        let (o', s') := s.settleStep x
        (o' :: os, s')
      else (o :: os, s)
    else
      let (os', s') := Part.settleEarliest e xs os s
      (o :: os', s')
  | _, os, s => (os, s)

/-- R107 step 1, R114: the end of a contactor's command is announced to the Switch Engine. -/
def Part.walkHears (e : Elem) (failed : Bool) (s : Part) : Part :=
  match s.change?, s.walk.state with
  | some c, .inGroup =>
    match c.toPat with
    | none => s
    | some p =>
      let g := s.groupNow p c
      let os := if failed then s.walk.steps else List.zipWith (completeStep e) g s.walk.steps
      let (os', s') := Part.settleEarliest e g os s
      (s'.setWalk { s'.walk with steps := os' }).groupTest p c
  | _, _ => s

/-- R114, R116: the DEFERRED steps that waited on the guard are settled, in list order; one whose contactor has a
command in flight goes on waiting for it. A second DEFERRED step of a contactor, which an earlier one left with neither a
command nor a failing guard to wait for, is settled here as well (notes/assumptions/46.md). -/
def Part.settleWaiting : List SwitchStep → List StepStatus → Part → List StepStatus × Part
  | x :: xs, o :: os, s =>
    if o = .deferred then
      let (o', s1) := s.settleStep x
      let (os', s2) := Part.settleWaiting xs os s1
      (o' :: os', s2)
    else
      let (os', s2) := Part.settleWaiting xs os s
      (o :: os', s2)
  | _, os, s => (os, s)

/-- R115: the end of a group's dwell. -/
def Part.dwellOver (s : Part) : Part :=
  match s.change? with
  | none => s
  | some c =>
    match c.toPat with
    | none => s
    | some p => (s.setWalk { s.walk with dwellDeadline := none }).walkOn p (c.group + 1)

/-- R116: the guard holds again during SWITCHING, and the walk picks up where it waited. -/
def Part.walkResumes (p : Pat) (c : Change) (s : Part) : Part :=
  match s.walk.state with
  | .withheld => s.walkOn p c.group
  | .inGroup =>
    let (os, s') := Part.settleWaiting (s.groupNow p c) s.walk.steps s
    (s'.setWalk { s'.walk with steps := os }).groupTest p c
  | .idle | .starting | .dwell => s

/-! ### QUIET's changes (R36, R80, R111, R116) -/

/-- R111, R116: QUIET is lost. -/
def Part.quietLost (s : Part) : Part :=
  if s.contactsInFlight.isEmpty then
    if s.phase? = some .switching then s.setPhaseDeadline (some (after s.uptime s.bank.muteTimeout)) else s
  else s.raiseRfInSwitch

/-- R80, R116: QUIET comes to hold. -/
def Part.quietGained (s : Part) : Part :=
  match s.change? with
  | none => s
  | some c =>
    match c.toPat, c.phase with
    | some p, .muting => s.enterSwitching p
    | some p, .switching => (s.setPhaseDeadline none).walkResumes p c
    | _, _ => s

/-- R36: QUIET is evaluated again, and a change of its value announced. -/
def Part.evaluateQuiet (s : Part) : Part :=
  let was := s.table.quiet
  let s' := s.setTable { s.table with quiet := s.quietNow }
  if was && !s'.table.quiet then s'.quietLost
  else if !was && s'.table.quiet then s'.quietGained
  else s'

/-! ### The end of a command (R107) -/

/-- R123: the end of an actuator's command is announced to the Trim Engine, which decides a deferred preset again. -/
def Part.trimHears (e : Elem) (s : Part) : Part :=
  match s.change? with
  | none => s
  | some c =>
    match c.phase, c.toPat with
    | .presetting, some p => if s.trim.deferred.contains e then s.presetAgain p e else s
    | _, _ => s

/-- R64: the round in progress is abandoned. -/
def Part.abandonRound (s : Part) : Part := s.setRound { s.round with coverage := [] }

/-- R82, R107 step 3, R123: in PRESETTING the sequencer tests whether the phase ends. -/
def Part.testPresets (s : Part) : Part :=
  match s.change? with
  | none => s
  | some c =>
    match c.phase, c.toPat with
    | .presetting, some p => s.endPresetting p
    | _, _ => s

/-- R105: the expired request that a contactor command leaves, at its deadline. -/
def Order.expires (x : Order) (k : FaultKind) : Option Contact :=
  match x, k with
  | .contact a, .contactTimeout => some a
  | _, _ => none

/-- R105, R107, R121: a command is removed from its element's record: an actuator's settle count becomes 0, and a
contactor command that ends at its deadline leaves its request behind. -/
def Part.dropCommand (s : Part) (e : Elem) (c : Command) (fault : Option FaultKind) : Part :=
  (s.modifyElem e fun r =>
    { r with
      command := none
      settleCount := if c.order.isContact then r.settleCount else 0
      expired := (fault.bind c.order.expires).or r.expired }).disown e

/-- R107: the command in flight for an element ends, by completion or with a fault, and the end is announced: to the
engine, the Verdict Unit and the sequencer, and then, where it carries a fault, to the Fault Unit (R124;
notes/assumptions/19.md). -/
def Part.endCommand (s : Part) (e : Elem) (fault : Option FaultKind) : Part :=
  match s.elems[e].command with
  | none => s
  | some c =>
    let s1 := s.dropCommand e c fault
    let s2 := if c.order.isContact then s1.walkHears e fault.isSome else (s1.trimHears e).abandonRound.testPresets
    match fault with
    | none => s2
    | some k => s2.raise k (.element e) s2.classBC

/-! ### STATE entries (R98, R99, R103, R104, R108) -/

/-- R98, R188: the state a code reports for a contactor. -/
def contactCode (n : Nat) : Option ContactState :=
  match n with
  | 1 => some .opened
  | 2 => some .closed
  | 3 => some .moving
  | 4 => some .fault
  | _ => none

/-- R98, R188: the motion a code reports for an actuator. -/
def motionCode (n : Nat) : Option Motion :=
  match n with
  | 3 => some .moving
  | 5 => some .atRest
  | 6 => some .stalled
  | _ => none

/-- R108: the entry is drift. -/
def ElemRecord.drifts (r : ElemRecord) (new : ContactState) : Bool :=
  match new.known with
  | none => false
  | some a =>
    (r.contact == .opened || r.contact == .closed || r.contact == .moving) && r.contact != new &&
      r.command.isNone && r.expired != some a

/-- R108: drift is classed by QUIET. -/
def Part.raiseDrift (s : Part) (e : Elem) (quiet : Bool) : Part :=
  if quiet then s.raise .contactDrift (.element e) s.classBC else s.raise .hotContact (.element e) .a

/-- R99: a STATE entry applied to a contactor. An entry of FAULT that ends a command and is a change to FAULT raises
CONTACT_FAULT once (notes/assumptions/25.md). One that repeats FAULT ends a newer command in flight and raises
CONTACT_FAULT, by R103's table, although R103 goes on that a repeated FAULT raises nothing further (DESIGN CHOICE,
notes/assumptions/53.md). -/
def Part.applyContact (s : Part) (e : Elem) (new : ContactState) : Part :=
  let r := s.elems[e]
  let quiet := s.table.quiet
  -- step 2
  let s1 := (s.modifyElem e fun r => { r with contact := new, lastReport := some s.uptime }).endCondition
    .elementSilent (.element e)
  -- step 3, R103
  let s2 := match r.command with
    | none =>
      if new = .fault ∧ r.contact ≠ .fault then s1.raise .contactFault (.element e) s1.classBC else s1
    | some c =>
      if new = .fault then s1.endCommand e (some .contactFault)
      else if (new.known.map Order.contact) = some c.order then s1.endCommand e none
      else s1
  -- step 4
  let s3 := if new.known.isSome then s2.modifyElem e fun r => { r with expired := none } else s2
  -- steps 1 and 5: an entry that is drift meets no command, so nothing was announced before it
  if r.drifts new then s3.raiseDrift e quiet else s3

/-- R99: a STATE entry applied to an actuator. -/
def Part.applyMotion (s : Part) (e : Elem) (new : Motion) (pos : Nat) : Part :=
  let s1 := (s.modifyElem e fun r =>
      { r with motion := new, position := some pos, lastReport := some s.uptime }).endCondition
    .elementSilent (.element e)
  -- step 3, R104
  match s.elems[e].command with
  | none => s1
  | some c =>
    match c.order, new with
    | .position t, .atRest => if levelGap pos t ≤ s.bank.posDeadband e then s1.endCommand e none else s1
    | .position _, .stalled => s1.endCommand e (some .actuatorStall)
    | _, _ => s1

/-- R98: one entry of a STATE frame, with its own reaction. -/
def Part.stateEntry (s : Part) (node : Byte) (channel code pos : Nat) : Part :=
  match s.bank.findElem node.toNat channel with
  | none => s
  | some e =>
    match s.bank.elemKind e with
    | .absent => s
    | .contactor =>
      match contactCode code with
      | some x => (s.applyContact e x).settle
      | none => s
    | .actuator =>
      match motionCode code with
      | some x => (s.applyMotion e x pos).settle
      | none => s

/-- R98: the entries of a STATE frame, in order, each of four bytes. -/
def Part.stateEntries (node : Byte) : List Byte → Part → Part
  | ch :: code :: hi :: lo :: rest, s =>
    Part.stateEntries node rest (s.stateEntry node ch.toNat code.toNat (256 * hi.toNat + lo.toNat))
  | _, s => s

/-! ### Silence and deadlines (R100, R101, R105) -/

/-- R100: an element falls silent this long after its last report. -/
def silenceTime : Nat := 500

/-- R100: the silence deadline of an element, which exists while it has reported and is not silent. -/
def Part.silenceDeadline (s : Part) (e : Elem) : Option Uptime :=
  if s.silent e then none
  else if s.bank.elemKind e = .absent then none
  else s.elems[e].lastReport.map fun t => after t silenceTime

/-- R100, R101: an element falls silent. -/
def Part.fallSilent (s : Part) (e : Elem) : Part :=
  let s' := s.modifyElem e fun r =>
    match s.bank.elemKind e with
    | .contactor => { r with contact := .unknown, expired := none }
    | .actuator => { r with motion := .unknown, position := none }
    | .absent => r
  s'.raise .elementSilent (.element e) s'.classCD

/-- R105: the command in flight for an element reaches its deadline. -/
def Part.commandExpires (s : Part) (e : Elem) (c : Command) : Part :=
  match c.order with
  | .position _ => s.endCommand e (some .actuatorTimeout)
  | .contact _ =>
    if c.origin = .part ∧ s.bank.elemRetry e = true ∧ c.retries = 0 ∧ s.guardHolds = true then
      (s.modifyElem e fun r =>
        { r with
          command := some
            { c with retries := 1, deadline := after s.uptime (s.bank.operateTimeout e) } }).handCommand e c.order
    else s.endCommand e (some .contactTimeout)

end Sys2Proof.Machine
end

