-- ==== Sys2Proof/Machine/Trim.lean ====
section
/-! DEFINITION. Trim at a window close (R125 to R132). -/

namespace Sys2Proof.Machine

/-- R125: the states in which trim applies under trim pattern p. -/
def Part.trimApplies (s : Part) (p : Pat) : Bool :=
  (match s.seq.mode with
    | .changing c => c.phase == .trimming || c.phase == .verifying
    | .inPattern => s.bank.continuous p
    | .stopped | .halted => false) &&
  s.corr.config.source == some p

/-- The targets of a tower in the monitor configuration (R37). -/
def MonitorConfig.target (c : MonitorConfig) (t : Tower) : Option TowerTarget := c.targets.map fun v => v[t]

/-- R126, step 2: an actuator is eligible for a trim step. -/
def Part.trimEligible (s : Part) (p : Pat) (a : ActuatorEntry) : Bool :=
  let r := s.elems[a.elem]
  s.trimApplies p && !s.trim.exhausted.contains a.elem &&
    s.table.readings[a.tower].state == .valid &&
    (s.corr.config.target a.tower).map TowerTarget.role == some .lit &&
    r.command.isNone && r.position.isSome && (r.motion == .atRest || r.motion == .stalled) &&
    decide (s.bank.settleWindows p ≤ r.settleCount)

/-- R59: a phase difference wrapped into -18000..17999. -/
def wrapPhase (d : Int) : Int := if 18000 ≤ d then d - 36000 else if d < -18000 then d + 36000 else d

/-- A value held within ±m. -/
def clampAbs (m : Nat) (x : Int) : Int := if (m : Int) < x then m else if x < -(m : Int) then -(m : Int) else x

/-- R127: the quotient of the ratio error, truncated toward zero; under a target ratio of 0 it is a free value
(notes/assumptions/43.md). -/
def ratioError (ratio target : Nat) : Int :=
  if target = 0 then Config.ratioErrorOverZero ratio else Int.tdiv (((target : Int) - ratio) * 1000) target

/-- R127: the error of a reading from its target in a quantity. -/
def trimError (q : Quantity) (r : Reading) (t : TowerTarget) : Int :=
  match q with
  | .ratio => clampAbs 32767 (ratioError r.ratio t.ratio)
  | .phase => -(wrapPhase (r.phase - t.phase))

/-- R128: n / 256 rounded to nearest, an exact half away from zero. -/
def round256 (n : Int) : Int := if n < 0 then -((-n + 128) / 256) else (n + 128) / 256

/-- R128: the step of an actuator for an error. -/
def trimStep (a : ActuatorEntry) (e : Int) : Int := clampAbs a.maxStep (round256 (a.sense * a.gain * e))

/-- R129, R130: a step that is not 0 is taken, or meets the end of travel. -/
def Part.takeStep (s : Part) (a : ActuatorEntry) (pos : Nat) (step : Int) : Part :=
  let target := s.bank.limitPosition a.elem (pos + step)
  if target ≠ pos then
    (s.commandPart a.elem (.position target) false).modifyElem a.elem fun r =>
      { r with trimCount := bump 255 r.trimCount }
  else
    let s1 := if !s.elems[a.elem].atLimit && s.trim.allowance then
        let s0 := s.raise .actuatorLimit (.element a.elem) .d
        s0.setTrim { s0.trim with allowance := false }
      else s
    s1.modifyElem a.elem fun r => { r with atLimit := true }

/-- R126, step 1: a close of its tower counts toward an actuator's settling. -/
def Part.countSettle (s : Part) (e : Elem) : Part :=
  if s.elems[e].command.isNone then s.modifyElem e fun r => { r with settleCount := bump 255 r.settleCount } else s

/-- R126: one actuator entry at a close of its tower. The flag says that its budget is exhausted: the trim count stands at
the trim limit or, after a promotion that lowered it, above, whatever step the error would give
(notes/assumptions/44.md). -/
def Part.trimEntry (p : Pat) (a : ActuatorEntry) (s : Part) : Bool × Part :=
  let s1 := s.countSettle a.elem
  if !s1.trimEligible p a then (false, s1)
  else
    match s1.corr.config.target a.tower, s1.elems[a.elem].position with
    | some t, some pos =>
      let e := trimError a.quantity s1.table.readings[a.tower] t
      if e.natAbs ≤ a.deadband then (false, s1)
      else if s1.elems[a.elem].trimCount < s1.bank.trimLimit p then
        let step := trimStep a e
        if step = 0 then (false, s1) else (false, s1.takeStep a pos step)
      else (true, s1)
    | _, _ => (false, s1)

/-- R126: the entries of a list, in order; the exhausted actuators are gathered ascending. -/
def Part.trimEntries (p : Pat) : List ActuatorEntry → List Elem → Part → List Elem × Part
  | [], out, s => (out, s)
  | a :: as, out, s =>
    let (x, s') := Part.trimEntry p a s
    Part.trimEntries p as (if x then addElem out a.elem else out) s'

/-- R131, R132: exhausted actuators raise TRIM_EXHAUSTED after the other entries have been taken; in IN_PATTERN they
are marked. -/
def Part.exhaust (s : Part) (es : List Elem) : Part :=
  let s' := if s.isInPattern then s.setTrim { s.trim with exhausted := es.foldl addElem s.trim.exhausted } else s
  s'.raiseEach .trimExhausted s'.classBC (es.map FaultObject.element)

/-- R126: the Trim Engine is told of a tower's window close. -/
def Part.trimClose (s : Part) (t : Tower) : Part :=
  match s.trimPattern with
  | none => s
  | some p =>
    let (es, s') := Part.trimEntries p ((s.bank.actuatorEntries p).filter fun a => a.tower == t) [] s
    s'.exhaust es

end Sys2Proof.Machine
end

