-- ==== Sys2Proof/Machine/Verdict.lean ====
section
/-! DEFINITION. Tolerance tests, rounds and verdicts (chapter 4), and what the sequencer and the Trim Engine do with a
verdict (R84, R85, R69, R70, R96, R133). -/

namespace Sys2Proof.Machine

/-! ### Tolerance tests (R57 to R60) -/

/-- R58: the ratio test of a LIT tower. -/
def ratioInTol (r target tol : Nat) : Bool := decide (levelGap r target * 1000 ≤ tol * target)

/-- R59: the phase test of a LIT tower. -/
def phaseInTol (phase target : Int) (tol : Nat) : Bool := decide ((wrapPhase (phase - target)).natAbs ≤ tol)

/-- R57: the tolerance test of a tower's reading. -/
def Reading.passes (r : Reading) (t : TowerTarget) (isRef : Bool) : Bool :=
  r.state == .valid &&
    (isRef ||
      match t.role with
      | .lit => ratioInTol r.ratio t.ratio t.ratioTol && phaseInTol r.phase t.phase t.phaseTol
      | .dark => decide (r.ratio ≤ t.ratio))

/-- R66: the installed towers that fail their tests against a configuration's targets, ascending. -/
def Part.failingTowers (s : Part) (ts : Vector TowerTarget 12) : List Tower :=
  s.bank.installedTowers.filter fun t =>
    !(s.table.readings[t].passes ts[t] (decide (t = s.corr.config.refTower)))

/-! ### MONITOR frames (R67, R188) -/

/-- R188: the verdict's code. -/
def Verdict.code : Verdict → Nat
  | .noVerdict => 0
  | .inTol => 1
  | .outTol => 2

/-- R188: the reading state's code. -/
def ReadingState.code : ReadingState → Nat
  | .pending => 0
  | .valid => 1
  | .stale => 2
  | .noSignal => 3
  | .clipped => 4

/-- R67, R188: the value of a report slot of a quantity code; none for an unused slot. -/
def Reading.report (r : Reading) (q : Nat) : Option (List Byte) :=
  match q with
  | 1 => some (byte2 r.ratio)
  | 2 => some (byte2s r.phase)
  | 3 => some (byte1 r.state.code ++ byteFlag r.inTol)
  | _ => none

/-- R67: the values of the used report slots, in slot order. -/
def Part.reports (s : Part) : List (List Byte) :=
  (List.range 16).filterMap fun k => s.table.readings[s.bank.reportTower k].report (s.bank.reportQuantity k)

/-- R67, R188: the MONITOR frame of the round just completed. -/
def Part.monitorFrame (s : Part) : Frame :=
  { dst := controllerNode, src := 0, kind := FrameKind.monitor.code,
    payload := byte2 s.round.counter.toNat ++ byte1 s.situation.stateCode ++ byte1 s.situation.phaseCode ++
      bytePat (if s.round.last = .noVerdict then none else s.corr.config.source) ++ byte1 s.round.last.code ++
      byteTowers s.round.failing ++ byte2 s.ramp.level ++ byte1 s.reports.length ++ s.reports.flatten }

/-! ### The sequencer's part (R68, R69, R70, R84, R85, R96) -/

/-- R84, R85: VERIFYING at a verify count: it ends once the count has reached verify rounds. -/
def Part.verifying (p : Pat) (n : Nat) (s : Part) : Part :=
  let s' := s.modifyChange fun c => { c with phase := .verifying, verify := n }
  if s'.bank.verifyRounds p ≤ n then s'.enterRampFinal Part.slotTaken p else s'

/-- R84, R85: a verdict handed while CHANGING. -/
def Part.changeVerdict (v : Verdict) (c : Change) (s : Part) : Part :=
  match c.toPat, c.phase, v with
  | some p, .trimming, .inTol => s.verifying p 1
  | some p, .verifying, .inTol => s.verifying p (c.verify + 1)
  | some _, .verifying, .outTol => s.modifyChange fun c => { c with phase := .trimming, verify := 0 }
  | _, _, _ => s

/-- R70, R154: an OUT_TOL verdict that takes the out-of-tolerance run to n brings it to the grace of pattern p, in a run
that has not raised before (notes/assumptions/50.md). -/
def Part.ootReaches (s : Part) (p : Pat) (n : Nat) : Bool :=
  !s.seq.ootRaised && decide (s.seq.ootRun < n ∧ n = s.bank.ootGrace p)

/-- R69, R70: an OUT_TOL verdict in IN_PATTERN with TX_TRIP released: the out-of-tolerance run rises, and
OUT_OF_TOLERANCE is raised where it reaches the grace of pattern p, once in a run (R154). -/
def Part.ootRises (p : Pat) (s : Part) : Part :=
  let n := bump 255 s.seq.ootRun
  let raises := s.ootReaches p n
  let s' := s.setSeq { s.seq with ootRun := n, ootRaised := s.seq.ootRaised || raises }
  if raises then s'.raise .outOfTolerance .nothing .c else s'

/-- R69, R70: an IN_TOL verdict in IN_PATTERN with TX_TRIP released. -/
def Part.ootClears (s : Part) : Part :=
  let s' := s.endCondition .outOfTolerance .nothing
  s'.setSeq { s'.seq with ootRun := 0, ootRaised := false }

/-- R96: an IN_TOL verdict in DEGRADED, after the run: the restore count, and the restoration of NORMAL. A count that stands
above verify rounds, which a promotion has lowered, has reached them (notes/assumptions/51.md). -/
def Part.restoreCounts (p : Pat) (s : Part) : Part :=
  if s.classCActive then s
  else
    let n := bump 15 s.seq.restore
    let s' := s.setSeq { s.seq with restore := n }
    if s'.bank.verifyRounds p ≤ n then
      (s'.setSeq { s'.seq with sub := .normal }).rampInPattern (s'.bank.operatingLevel p)
    else s'

/-- R69, R70, R96: a verdict handed in IN_PATTERN. -/
def Part.patternVerdict (v : Verdict) (p : Pat) (s : Part) : Part :=
  match v with
  | .noVerdict => s
  | .outTol =>
    let s1 := s.setSeq { s.seq with restore := 0 }
    if s1.lines.txTrip then s1 else s1.ootRises p
  | .inTol =>
    let s1 := if s.lines.txTrip then s else s.ootClears
    match s1.seq.sub with
    | .degraded => s1.restoreCounts p
    | .normal => s1

/-- R68: a verdict handed to the Change Sequencer. -/
def Part.sequencerVerdict (v : Verdict) (s : Part) : Part :=
  match s.seq.mode, s.seq.active with
  | .changing c, _ => s.changeVerdict v c
  | .inPattern, some p => s.patternVerdict v p
  | _, _ => s

/-- R133: an IN_TOL verdict in IN_PATTERN under a CONTINUOUS pattern refills every trim budget. -/
def Part.trimVerdict (v : Verdict) (s : Part) : Part :=
  match s.seq.mode, s.seq.active with
  | .inPattern, some p =>
    if v = .inTol ∧ s.bank.continuous p = true then
      s.setElems (mapAll s.elems fun _ r => { r with trimCount := 0 })
    else s
  | _, _ => s

/-! ### Rounds (R61 to R66) -/

/-- R62: a tower is covered in the round in progress. -/
def Part.cover (s : Part) (t : Tower) : Part :=
  s.setRound { s.round with coverage := addTower s.round.coverage t }

/-- R65: the round completes. -/
def Part.roundComplete (s : Part) : Bool :=
  decide (1 ≤ s.bank.towerCount) && s.bank.installedTowers.all (fun t => s.round.coverage.contains t) &&
    !s.actuatorMoving

/-- R57, R66: the tests of a completion: in-tolerance flags, verdict, failing set and counter. -/
def Part.judge (s : Part) : Part :=
  let targets := if s.isHalted then none else s.corr.config.targets
  let failing := match targets with
    | none => []
    | some ts => s.failingTowers ts
  let verdict := match targets with
    | none => Verdict.noVerdict
    | some _ => if failing.isEmpty then .inTol else .outTol
  let flags := mapAll s.table.readings fun t r =>
    if s.bank.installed t then { r with inTol := targets.isSome && !failing.contains t } else r
  (s.setTable { s.table with readings := flags }).setRound
    { counter := s.round.counter + 1, coverage := s.round.coverage, last := verdict, failing := failing }

/-- R66: a completion: the verdict, the MONITOR frame, the hand-over to the sequencer and the Trim Engine, and a new
round. -/
def Part.completeRound (s : Part) : Part :=
  let s1 := s.judge
  let v := s1.round.last
  (((s1.handMonitor s1.monitorFrame).sequencerVerdict v).trimVerdict v).abandonRound

/-- R65: the completion test. -/
def Part.testRound (s : Part) : Part := if s.roundComplete then s.completeRound else s

end Sys2Proof.Machine
end

