-- ==== Sys2Proof/Machine/Management.lean ====
section
/-! DEFINITION. The Management Responder (R175 to R178, R1, R2, R18, R74, R91, R94, R161) and its replies (R190). -/

namespace Sys2Proof.Machine

/-! ### Replies (R175, R190) -/

/-- R190: the requests. -/
inductive RequestCode where
  | readBlock
  | writeBlock
  | commit
  | change
  | stop
  | abort
  | recover
  | readStatus
  | readReadings
  | readFaults
  | clearFaults
  | reset
  deriving DecidableEq, Repr

/-- R190: request codes 1 to 12. -/
def RequestCode.code : RequestCode → Byte
  | .readBlock => 1
  | .writeBlock => 2
  | .commit => 3
  | .change => 4
  | .stop => 5
  | .abort => 6
  | .recover => 7
  | .readStatus => 8
  | .readReadings => 9
  | .readFaults => 10
  | .clearFaults => 11
  | .reset => 12

/-- R190: the results of a reply. -/
inductive Result where
  | ok
  | isPending
  | range
  | activeBank
  | isProtected
  | busy
  | invalid
  | refusedLocal
  | refusedHalted
  | notDefined
  | unreachable
  | reverting
  | nothing
  | notHalted
  | notStopped
  | unknown
  deriving DecidableEq, Repr

/-- R190: result codes 0 to 15. -/
def Result.code : Result → Byte
  | .ok => 0
  | .isPending => 1
  | .range => 2
  | .activeBank => 3
  | .isProtected => 4
  | .busy => 5
  | .invalid => 6
  | .refusedLocal => 7
  | .refusedHalted => 8
  | .notDefined => 9
  | .unreachable => 10
  | .reverting => 11
  | .nothing => 12
  | .notHalted => 13
  | .notStopped => 14
  | .unknown => 15

/-- R175, R190: the reply to a request: to its source, with its tag and code. -/
def replyFrame (src tag code : Byte) (r : Result) (data : List Byte) : Frame :=
  { dst := src, src := 0, kind := FrameKind.mgmtReply.code, payload := [tag, code, r.code] ++ data }

/-- R175: a request is answered. -/
def Part.answer (s : Part) (src tag : Byte) (c : RequestCode) (r : Result) (data : List Byte) : Part :=
  s.reply (replyFrame src tag c.code r data)

/-! ### READ_BLOCK and WRITE_BLOCK (R1, R2, R4, R7, R11) -/

/-- R1. -/
def Part.readBlock (src tag n : Byte) (s : Part) : Part :=
  if populated n.toNat then
    s.answer src tag .readBlock .ok (s.tables.mem.readBytes (blockAddr n.toNat) 64)
  else s.answer src tag .readBlock .range []

/-- R2: the checks of a WRITE_BLOCK, in order. -/
def Part.writeRefusal (s : Part) (n : Nat) : Option Result :=
  if !populated n then some .range
  else if within 80 122 n then some .activeBank
  else if n ≤ 3 ∧ s.lines.licenceKey = false then some .isProtected
  else if n ≤ 3 ∧ s.tables.licenceWrite.isSome = true then some .busy
  else none

/-- R4: the time of a licence write's non-volatile storage. -/
def licenceTime : Nat := 5

/-- R4, R144: an accepted licence write: in effect at once, in flight for 5 ms, the staged bank back to EDITING from
READY, and the Ramp Engine clamped where the slot governs. -/
def Part.writeLicence (s : Part) (p : Pat) (data : List Byte) : Part :=
  let a := blockAddr p.val
  let s1 := s.setTables
    { mem := s.tables.mem.writeBytes a data
      licenceWrite := some
        { block := p, old := s.tables.mem.readBytes a 64, deadline := after s.uptime licenceTime }
      staged := if s.tables.staged = .ready then .editing else s.tables.staged }
  if s1.governing = some p then s1.clampLicence.settleRamp Part.slotTaken else s1

/-- R2: an accepted WRITE_BLOCK, by region: licence (R4), staged bank (R7), schedule (R11). -/
def Part.acceptWrite (s : Part) (n : Nat) (data : List Byte) : Part :=
  match patOf n with
  | some p => s.writeLicence p data
  | none =>
    let mem := s.tables.mem.writeBytes (blockAddr n) data
    if n < 80 then s.setTables { s.tables with mem := mem, staged := .editing }
    else (s.setTables { s.tables with mem := mem }).evaluate

/-- R2, R189: WRITE_BLOCK. A request that does not carry 64 bytes is answered UNKNOWN. -/
def Part.writeBlock (src tag n : Byte) (data : List Byte) (s : Part) : Part :=
  if data.length ≠ 64 then s.answer src tag .writeBlock .unknown []
  else
    match s.writeRefusal n.toNat with
    | some r => s.answer src tag .writeBlock r []
    | none => (s.acceptWrite n.toNat data).answer src tag .writeBlock .ok []

/-! ### COMMIT (R7, R18, R19) -/

/-- The staged-bank state is set. -/
def Part.setStaged (s : Part) (x : StagedState) : Part := s.setTables { s.tables with staged := x }

/-- R18: COMMIT. R190 gives the three values of an INVALID reply without a width; each is one byte (DESIGN CHOICE,
notes/assumptions/54.md). -/
def Part.commit (src tag : Byte) (s : Part) : Part :=
  match s.tables.mem.validate with
  | none => (s.setStaged .ready).answer src tag .commit .ok []
  | some v =>
    (s.setStaged .editing).answer src tag .commit .invalid
      (byte1 (v.pos / 64) ++ byte1 (v.pos % 64) ++ byte1 v.reason.code)

/-! ### CHANGE and STOP (R74, R75, R89) -/

/-- R75: the reply's result for a refusal. -/
def Refused.result : Refused → Result
  | .isLocal => .refusedLocal
  | .isHalted => .refusedHalted
  | .notDefined => .notDefined
  | .unreachable => .unreachable

/-- R74: a MGMT request naming a target; `none` for STOP. -/
def Part.request (src tag : Byte) (code : RequestCode) (target : Option Nat) (s : Part) : Part :=
  if s.lines.localOn then s.answer src tag code .refusedLocal (byteFlag false)
  else if s.isChanging then
    match target with
    | none => (s.offerSlot { source := .mgmt, target := none }).answer src tag code .isPending (byteFlag false)
    | some n =>
      match patOf n with
      | some p => (s.offerSlot { source := .mgmt, target := some p }).answer src tag code .isPending (byteFlag false)
      | none => s.answer src tag code .notDefined (byteFlag false)
  else
    let a := s.startNow .mgmt target
    match a.refusal with
    | none => a.part.answer src tag code .ok (byteFlag a.adopted)
    | some r => a.part.answer src tag code r.result (byteFlag a.adopted)

/-! ### ABORT and RECOVER (R91, R94) -/

/-- R91: ABORT. -/
def Part.abort (src tag : Byte) (s : Part) : Part :=
  match s.change? with
  | none => s.answer src tag .abort .nothing []
  | some c =>
    match c.kind with
    | .revert => s.answer src tag .abort .reverting []
    | .normal | .reseat => ((s.raise .aborted .nothing .d).revert .abort).answer src tag .abort .ok []

/-- R94: RECOVER. -/
def Part.recover (src tag : Byte) (s : Part) : Part :=
  if s.isHalted then
    let s1 := s.endEventRecords.restartIdle
    (s1.setSeq { s1.seq with mode := .stopped, active := none }).answer src tag .recover .ok []
  else s.answer src tag .recover .notHalted []

/-! ### READ_STATUS (R177, R190) -/

/-- R190: the attribute's code. -/
def ChangeKind.code : ChangeKind → Nat
  | .normal => 0
  | .reseat => 1
  | .revert => 2

/-- R190: the cause's code: 0 absent, a fault kind, or 255 ABORT. -/
def causeCode : Option Cause → Nat
  | none => 0
  | some (.fault k) => k.code
  | some .abort => 255

/-- R190: bytes 8 to 15 of the status: all 0 when no change record is present. -/
def changeBytes : Option Change → List Byte
  | none => List.replicate 8 0
  | some c =>
    bytePat c.fromPat ++ bytePat c.toPat ++ byte1 c.source.code ++ byte1 c.kind.code ++ byte1 (causeCode c.cause) ++
      byte1 c.group ++ byte1 c.verify ++ byteFlag c.adopted

/-- R190: the staged state's code. -/
def StagedState.code : StagedState → Nat
  | .clean => 0
  | .editing => 1
  | .ready => 2

/-- R190: a bit of a byte of flags. -/
def flagBit (k : Nat) (b : Bool) : Byte := if b then BitVec.ofNat 8 (2 ^ k) else 0

/-- R190: the 54 bytes of the status. The pending target of an empty slot and the value of an absent report are not
stated (notes/assumptions/6.md). -/
def Part.statusBytes (s : Part) : List Byte :=
  byte1 s.situation.stateCode ++ byte1 s.situation.phaseCode ++ bytePat s.seq.active ++ byte1 s.seq.ootRun ++
    byte1 s.seq.restore ++
  (match s.seq.slot with
    | none => [0, s.freeByte 0]
    | some r => byte1 r.source.code ++ bytePat r.target) ++
  byteFlag s.isChanging ++ changeBytes s.change? ++
  byte1 s.tables.staged.code ++ byteFlag s.tables.licenceWrite.isSome ++
  (match s.corr.config.source with
    | some p => byte1 p.val
    | none => byte1 254) ++
  byte1 s.corr.config.refTower.val ++ byte1 s.corr.config.w ++ byte1 s.corr.config.s ++
  byte2 s.store.epochStart.toNat ++ byteFlag s.table.quiet ++
  byte2 s.ramp.level ++ byteFlag s.ramp.inhibit ++
  (match s.ramp.lastReported with
    | some x => byte2 x ++ byteFlag true
    | none => [s.freeByte 1, s.freeByte 2] ++ byteFlag false) ++
  byteFlag s.field.link.up ++ byteFlag s.station.link.up ++ byte2 s.field.discards ++ byte2 s.station.discards ++
  (match s.clock.time with
    | some c => byteFlag true ++ c.bytes
    | none => List.replicate 8 0) ++
  byte4 s.uptime.toNat ++ bytePat s.sched.inForce ++ bytePat s.sched.lastRaised ++ byteFlag s.sched.owed ++
  [flagBit 0 s.lines.localOn ||| flagBit 1 s.lines.licenceKey ||| flagBit 2 s.lines.txTrip |||
    flagBit 3 s.pins.fault ||| flagBit 4 s.pins.inPattern] ++
  [flagBit 0 s.table.anyClipped ||| flagBit 1 s.seq.anyOverrun]

/-- R177: ANY_CLIPPED and ANY_OVERRUN are cleared by the read. -/
def Part.clearSummary (s : Part) : Part :=
  let s' := s.setTable { s.table with anyClipped := false }
  s'.setSeq { s'.seq with anyOverrun := false }

/-- R177: READ_STATUS. -/
def Part.readStatus (src tag : Byte) (s : Part) : Part :=
  (s.clearSummary.answer src tag .readStatus .ok s.statusBytes).nextFree

/-! ### READ_READINGS, READ_FAULTS, CLEAR_FAULTS (R161, R176, R190) -/

/-- R190: a tower's 13 bytes. -/
def Reading.bytes (r : Reading) (quietRun : Nat) : List Byte :=
  byte1 r.state.code ++ byte2 r.ratio ++ byte2s r.phase ++ byte2 r.closes.toNat ++ byte2 r.age ++ byte2 r.late ++
    byteFlag r.inTol ++ byte1 quietRun

/-- R190: the 161 bytes of the reading table. -/
def Part.readingBytes (s : Part) : List Byte :=
  byte2 s.round.counter.toNat ++ byte1 s.round.last.code ++ byteTowers s.round.failing ++
    towers.flatMap fun t => s.table.readings[t].bytes s.table.quietRuns[t]

/-- R176: READ_READINGS. -/
def Part.readReadings (src tag : Byte) (s : Part) : Part :=
  s.answer src tag .readReadings .ok s.readingBytes

/-- R176: up to four records from an index. -/
def FaultUnit.slice (u : FaultUnit) (start : Nat) : List FaultRecord := (u.records.drop start).take 4

/-- R190: the records of a reply, each of whose unstated bytes is a free value of its own. -/
def Part.recordBytes (s : Part) : Nat → List FaultRecord → List Byte
  | _, [] => []
  | k, r :: rs => r.bytes (fun j => s.freeByte (8 * k + j)) ++ s.recordBytes (k + 1) rs

/-- R190: the data of a READ_FAULTS reply. -/
def Part.faultBytes (s : Part) (start : Nat) : List Byte :=
  byteFlag s.faults.overflow ++ byte1 s.faults.records.length ++ s.recordBytes 0 (s.faults.slice start)

/-- R176: READ_FAULTS. -/
def Part.readFaults (src tag start : Byte) (s : Part) : Part :=
  (s.answer src tag .readFaults .ok (s.faultBytes start.toNat)).nextFree

/-- R161: CLEAR_FAULTS. R190 gives the count removed without a width; it is one byte (DESIGN CHOICE,
notes/assumptions/54.md). -/
def Part.clearFaults (src tag : Byte) (s : Part) : Part :=
  let removed := (s.faults.records.filter fun r => !r.active).length
  (s.setFaults s.faults.clear).answer src tag .clearFaults .ok (byte1 removed)

/-! ### RESET (R178) -/

/-- R178: RESET. The reply is placed after the reset has emptied the reply queue, and ahead of the POWER frame that the
reset's end hands over (R137). -/
def Part.resetRequest (src tag : Byte) (s : Part) : Part :=
  if s.isChanging || s.isInPattern then s.answer src tag .reset .notStopped []
  else (s.warmReset.answer src tag .reset .ok []).endReset

/-! ### The Responder (R175, R189) -/

/-- R175, R189: an unknown request is answered UNKNOWN with its tag and code, of a short payload 0 and 0, and no data, a
CHANGE or STOP of a wrong length among them (notes/assumptions/48.md). -/
def Part.unknownRequest (src : Byte) (payload : List Byte) (s : Part) : Part :=
  match payload with
  | tag :: code :: _ => s.reply (replyFrame src tag code .unknown [])
  | _ => s.reply (replyFrame src 0 0 .unknown [])

/-- R175, R176, R190: a MGMT_REQ is decoded by its code and length and decided. -/
def Part.takeRequest (src : Byte) (payload : List Byte) (s : Part) : Part :=
  match payload with
  | tag :: code :: args =>
    if code = RequestCode.readBlock.code ∧ args.length = 1 then s.readBlock src tag (args.getD 0 0)
    else if code = RequestCode.writeBlock.code ∧ args.length = 65 then
      s.writeBlock src tag (args.getD 0 0) (args.drop 1)
    else if code = RequestCode.commit.code ∧ args.length = 0 then s.commit src tag
    else if code = RequestCode.change.code ∧ args.length = 1 then
      s.request src tag .change (some (args.getD 0 0).toNat)
    else if code = RequestCode.stop.code ∧ args.length = 0 then s.request src tag .stop none
    else if code = RequestCode.abort.code ∧ args.length = 0 then s.abort src tag
    else if code = RequestCode.recover.code ∧ args.length = 0 then s.recover src tag
    else if code = RequestCode.readStatus.code ∧ args.length = 0 then s.readStatus src tag
    else if code = RequestCode.readReadings.code ∧ args.length = 0 then s.readReadings src tag
    else if code = RequestCode.readFaults.code ∧ args.length = 1 then s.readFaults src tag (args.getD 0 0)
    else if code = RequestCode.clearFaults.code ∧ args.length = 0 then s.clearFaults src tag
    else if code = RequestCode.reset.code ∧ args.length = 0 then s.resetRequest src tag
    else s.unknownRequest src payload
  | _ => s.unknownRequest src payload

end Sys2Proof.Machine
end

