-- ==== Sys2Proof/Machine/Pairing.lean ====
section
/-! DEFINITION. Block starts and SAMPLE arrivals (chapter 2), the Correlator's additions and window closes (R40 to R44),
and aging (R52). -/

namespace Sys2Proof.Machine

/-! ### Window close (R44) -/

/-- R44: a window of a tower closes: the reading, its flags and advisory, the cleared set, then the Trim Engine and the
Verdict Unit. -/
def Part.closeWindow (s : Part) (t : Tower) : Part :=
  let a := s.corr.accums[t]
  let r := s.table.readings[t]
  let r' := r.close a s.bank.signalFloor (decide (t = s.corr.config.refTower))
  -- steps 1 and 2, R49
  let s1 := s.setTable
    { s.table with
      readings := setAt s.table.readings t r'
      anyClipped := s.table.anyClipped || r'.state == .clipped }
  let s2 := if r'.state = .clipped then s1.raise .clippedWindow (.tower t) .d else s1
  -- step 3, R53
  let s3 := if r.state = .stale then s2.endCondition .towerStale (.tower t) else s2
  -- step 4
  let s4 := s3.setCorr { s3.corr with accums := setAt s3.corr.accums t Accum.clear }
  -- steps 5 and 6
  ((s4.trimClose t).cover t).testRound

/-- R40, R43: an item is added to a tower's set, and its window closes where the count has reached W. -/
def Part.addItem (s : Part) (t : Tower) (add : Accum → Accum) : Part :=
  let a := add s.corr.accums[t]
  let s' := s.setCorr { s.corr with accums := setAt s.corr.accums t a }
  if s'.corr.config.window ≤ a.count then s'.closeWindow t else s'

/-! ### Entries of the Pairing Store (R22) -/

/-- R26: the open entry of a block index. -/
def Part.entryOf (s : Part) (b : BitVec 16) : Option Entry := s.store.entries.find? fun e => e.index == b

/-- The entry of an index replaced, where it is still open. -/
def Part.modifyEntry (s : Part) (b : BitVec 16) (f : Entry → Entry) : Part :=
  s.setStore { s.store with entries := s.store.entries.map fun e => if e.index = b then f e else e }

/-- R22: a tower has a block in an entry. -/
def Entry.has (e : Entry) (t : Tower) : Bool :=
  (decide (t = e.refTower) && e.refBlock.isSome) || e.held.any (fun x => x.1 == t) || e.combined.contains t

/-- R25: an entry is complete. -/
def Entry.complete (e : Entry) (installed : List Tower) : Bool :=
  e.refBlock.isSome && installed.all fun t => t == e.refTower || e.combined.contains t

/-- R25: the completeness test of an entry: where complete, it is retired. -/
def Part.retire (s : Part) (b : BitVec 16) : Part :=
  s.setStore
    { s.store with
      entries := s.store.entries.filter fun e => !(e.index == b && e.complete s.bank.installedTowers) }

/-! ### Combination (R32) -/

/-- R32: tower k's block is combined with the reference block in the entry of index b; in an EPOCH entry the Correlator
takes the item. -/
def Part.combine (s : Part) (b : BitVec 16) (k : Tower) (x : Block) : Part :=
  match s.entryOf b with
  | none => s
  | some e =>
    match e.refBlock with
    | none => s
    | some r =>
      let s' := s.modifyEntry b fun e =>
        { e with held := e.held.filter (fun y => y.1 ≠ k), combined := addTower e.combined k }
      if e.epoch then s'.addItem k fun a => a.addCross s'.corr.config.s r x else s'

/-- R29, step 3: the held towers are combined in ascending order, each as the entry then stands: a promotion within the
event may have removed a tower's block, and a restart may have ended the epoch. -/
def Part.combineHeld (b : BitVec 16) : List Tower → Part → Part
  | [], s => s
  | k :: ks, s =>
    let x := (s.entryOf b).bind fun e => e.held.find? fun y => y.1 == k
    Part.combineHeld b ks
      (match x with
        | some y => s.combine b k y.2
        | none => s)

/-! ### Energy and quiet runs (R35, R36) -/

/-- R35, R36: an arriving block is weighed against the quiet level read at its arrival, its tower's quiet run updated, and
QUIET evaluated. A tower that a promotion within the event has left uninstalled keeps its run of 0
(notes/assumptions/30.md). -/
def Part.weigh (s : Part) (quietLevel : Nat) (t : Tower) (x : Block) : Part :=
  let run := if x.power ≤ (quietLevel : Int) then bump 255 s.table.quietRuns[t] else 0
  if s.bank.installed t then
    (s.setTable { s.table with quietRuns := setAt s.table.quietRuns t run }).evaluateQuiet
  else s

/-! ### SAMPLE arrivals (R26 to R31) -/

/-- R188: the samples of a SAMPLE payload from its byte 3 on, each I then Q. -/
def samplesOf : List Byte → List Sample
  | a :: b :: c :: d :: rest => { i := a ++ b, q := c ++ d } :: samplesOf rest
  | _ => []

/-- R188: the block that a SAMPLE payload carries. -/
def blockOf (payload : List Byte) : Block :=
  { samples := samplesOf (payload.drop 3), overrange := (payload.getD 2 0).getLsbD 0 }

/-- R188: the block index of a SAMPLE payload. -/
def indexOf (payload : List Byte) : BitVec 16 := payload.getD 0 0 ++ payload.getD 1 0

/-- R188, R189: the payload length of a SAMPLE. -/
def sampleLength : Nat := 131

/-- R27: an arrival that finds no entry is late or future. -/
def Part.strayArrival (s : Part) (t : Tower) (b : BitVec 16) : Part :=
  if (s.timer.index - b).toNat < 32768 then
    let r := s.table.readings[t]
    s.setTable { s.table with readings := setAt s.table.readings t { r with late := bump 65535 r.late } }
  else s.raise .sampleSequence (.tower t) .d

/-- R29: a reference arrival. The block is weighed by the quiet level of the bank as it stands at the arrival, which a
promotion within the event does not change (R35, R55). -/
def Part.referenceArrival (s : Part) (e : Entry) (x : Block) : Part :=
  let b := e.index
  let s1 := s.modifyEntry b fun e => { e with refBlock := some x }
  let s2 := if e.epoch then s1.addItem e.refTower fun a => a.addSelf s1.corr.config.s x else s1
  let s3 := Part.combineHeld b (e.held.map Prod.fst) s2
  (s3.weigh s.bank.quietLevel e.refTower x).retire b

/-- R26, step 3, R30, R31: an arrival that enters an entry; R35, R55: weighed by the quiet level read at the arrival. -/
def Part.pairArrival (s : Part) (t : Tower) (e : Entry) (x : Block) : Part :=
  if t = e.refTower then s.referenceArrival e x
  else
    let quietLevel := s.bank.quietLevel
    let s' := if e.refBlock.isSome then s.combine e.index t x
      else s.modifyEntry e.index fun e => { e with held := addHeld e.held t x }
    (s'.weigh quietLevel t x).retire e.index

/-- R26: a SAMPLE of an installed tower, of the right length. -/
def Part.arrival (s : Part) (t : Tower) (payload : List Byte) : Part :=
  let b := indexOf payload
  match s.entryOf b with
  | none => s.strayArrival t b
  | some e => if e.has t then s else s.pairArrival t e (blockOf payload)

/-! ### Block starts (R20, R21, R23, R24, R52, R62) -/

/-- R24: an entry is evicted: each installed tower with no block in it has its quiet run set to 0, and QUIET is
evaluated. -/
def Part.evict (s : Part) (e : Entry) (rest : List Entry) : Part :=
  let s1 := s.setStore { s.store with entries := rest }
  (s1.setTable
    { s1.table with
      quietRuns := mapAll s1.table.quietRuns fun t n => if s1.bank.installed t && !e.has t then 0 else n }).evaluateQuiet

/-- R22: an entry still open for an index that comes round again is evicted, so that no two entries share an index
(notes/assumptions/49.md). -/
def Part.closeOld (s : Part) (i : BitVec 16) : Part :=
  match s.entryOf i with
  | none => s
  | some e => s.evict e (s.store.entries.filter fun x => x.index ≠ i)

/-- R23, step 1: where 8 entries are open, the oldest is evicted. -/
def Part.evictOldest (s : Part) : Part :=
  match s.store.entries with
  | [] => s
  | e :: rest => if 8 ≤ s.store.entries.length then s.evict e rest else s

/-- R22, R23: room is made for the entry of a new index. -/
def Part.makeRoom (s : Part) (i : BitVec 16) : Part := (s.closeOld i).evictOldest

/-- R23: the entry of a new index is opened. -/
def Part.openEntry (s : Part) (i : BitVec 16) : Part :=
  s.setStore
    { s.store with
      entries := s.store.entries ++
        [{ index := i, refTower := s.corr.config.refTower, epoch := true, refBlock := none, held := [],
           combined := [] }] }

/-- R52: a tower is STALE once its age exceeds four windows. -/
def Part.goesStale (s : Part) (t : Tower) : Bool :=
  let r := s.table.readings[t]
  s.bank.installed t && r.state != .stale && decide (4 * s.corr.config.window < bump 65535 r.age)

/-- R52, R53: the readings of the installed towers age by one block, and the towers that go STALE are raised. -/
def Part.ageReadings (s : Part) : Part :=
  let new := towers.filter s.goesStale
  (s.setTable
    { s.table with
      readings := mapAll s.table.readings fun t r =>
        if s.bank.installed t then
          { r with age := bump 65535 r.age, state := if s.goesStale t then .stale else r.state }
        else r }).raiseStale new

/-- R62: the installed towers that are STALE are covered. -/
def Part.coverStale (s : Part) : Part :=
  (s.staleTowers.filter s.bank.installed).foldl Part.cover s

/-- R20: an expiry of the Block Timer starts one block. -/
def Part.startBlock (s : Part) : Part :=
  let i := s.timer.index + 1
  let s1 := (s.setTimer { s.timer with index := i }).handBlockStart i
  (((s1.makeRoom i).openEntry i).ageReadings.coverStale).testRound

end Sys2Proof.Machine
end

