-- ==== Sys2Proof/Machine/Receive.lean ====
section
/-! DEFINITION. The disposal of received frames (R166 to R169, R189) and the Frame Guard's decisions (R110, R134,
R148). -/

namespace Sys2Proof.Machine

/-! ### Frames from the field (R166, R167) -/

/-- R167: the copy of a field frame to the station controller. -/
def copyFrame (f : Frame) : Frame := { f with dst := controllerNode }

/-- R26, R167, R189: a SAMPLE for node 0: its arrival with the reaction it owes, then its copy. -/
def Part.takeSample (f : Frame) (s : Part) : Part :=
  match s.bank.towerOfNode f.src with
  | none => s
  | some t =>
    if f.payload.length = sampleLength then
      let s' := (s.arrival t f.payload).settle
      if s.bank.forwardSamples t then s'.queueStation .field (copyFrame f) else s'
    else s

/-- R98, R167, R189: a STATE frame for node 0: its entries, then its copy. -/
def Part.takeState (f : Frame) (s : Part) : Part :=
  (if f.payload.length % 4 = 0 then Part.stateEntries f.src f.payload s else s).queueStation .field (copyFrame f)

/-- R166: the disposal of a valid frame received at the Field Port. -/
def Part.disposeField (f : Frame) (s : Part) : Part :=
  if f.kind = FrameKind.power.code then s
  else if f.dst = 0 then
    if f.kind = FrameKind.sample.code then s.takeSample f
    else if f.kind = FrameKind.state.code then s.takeState f
    else s
  else if within 24 30 f.dst.toNat then s.queueStation .field f
  else s

/-- R164, R166: a valid frame is received at the Field Port. -/
def Part.receiveField (f : Frame) (s : Part) : Part := (s.linkAlive .field).disposeField f

/-! ### The Frame Guard toward the field (R110, R134, R169) -/

/-- R189: the action of a station contactor frame: OPEN or CLOSE in a frame of length 4. -/
def contactAction (f : Frame) : Option Contact :=
  if f.payload.length ≠ 4 then none
  else
    match payload8 f.payload 1 with
    | 1 => some .opened
    | 2 => some .closed
    | _ => none

/-- R189: the position of a station actuator frame: MOVE in a frame of length 4. -/
def movePosition (f : Frame) : Option Nat :=
  if f.payload.length = 4 ∧ payload8 f.payload 1 = 3 then some (payload16 f.payload 2) else none

/-- R110, R134: what the Frame Guard decides: a refusal, or the order of a STATION command. -/
inductive GuardDecision where
  | refuse (r : RefusedReason)
  | pass (x : Order)
  deriving DecidableEq, Repr

/-- R110: the Frame Guard's decision on a station frame that names a contactor. -/
def Part.guardContact (s : Part) (e : Elem) (f : Frame) : GuardDecision :=
  if s.isChanging || s.isInPattern then .refuse .state
  else
    match contactAction f with
    | none => .refuse .guarded
    | some a =>
      if !s.bank.stationWhenStopped e then .refuse .guarded
      else if !s.guardHolds then .refuse .notQuiet
      else if s.elems[e].command.isSome then .refuse .busy
      else .pass (.contact a)

/-- R134, check 2: the active pattern's trim mode is CONTINUOUS in IN_PATTERN. -/
def Part.inContinuous (s : Part) : Bool :=
  s.isInPattern &&
    match s.seq.active with
    | some p => s.bank.continuous p
    | none => false

/-- R134: the Frame Guard's decision on a station frame that names an actuator. -/
def Part.guardActuator (s : Part) (e : Elem) (f : Frame) : GuardDecision :=
  if s.isChanging || s.inContinuous then .refuse .state
  else
    match movePosition f with
    | none => .refuse .guarded
    | some p =>
      if !(if s.isInPattern then s.bank.stationInPattern e else s.bank.stationWhenStopped e) then .refuse .guarded
      else if !within (s.bank.posMin e) (s.bank.posMax e) p then .refuse .guarded
      else if s.elems[e].command.isSome then .refuse .busy
      else .pass (.position p)

/-- R110, R134, R169, R170: a decision is carried out: a REFUSED frame, or the frame placed with its command created as
it enters the queue. A full queue discards the frame and creates nothing. -/
def Part.carryOut (s : Part) (e : Elem) (f : Frame) : GuardDecision → Part
  | .refuse r => s.refuse f r
  | .pass x =>
    if s.fieldRoom then (s.recordCommand e .station x false).placeField f (some e) else s.countDiscard .station

/-- R169: a station frame offered for the field-bound queue. -/
def Part.guardField (f : Frame) (s : Part) : Part :=
  if f.kind = FrameKind.elemCmd.code ∧ f.dst = 31 then s.refuse f .guarded
  else
    match s.addressed f with
    | none => s.queueField f
    | some e =>
      match s.bank.elemKind e with
      | .contactor => s.carryOut e f (s.guardContact e f)
      | .actuator => s.carryOut e f (s.guardActuator e f)
      | .absent => s.queueField f

/-! ### Station POWER frames (R148) -/

/-- R148: the level of the substatus under the active pattern. -/
def Part.substatusLevel (s : Part) : Nat :=
  match s.seq.mode, s.seq.sub, s.seq.active with
  | .inPattern, .normal, some p => s.bank.operatingLevel p
  | .inPattern, .degraded, some p => s.bank.degradedLevel p
  | _, _, _ => 0

/-- R148: the level a station POWER frame is forwarded with. -/
def Part.clampedLevel (s : Part) (level : Nat) : Nat := min (min level s.substatusLevel) s.licensedNow

/-- R148: the forwarded frame: its level rewritten where the clamp changed it. -/
def rewriteLevel (f : Frame) (level : Nat) : Frame :=
  if payload16 f.payload 0 = level then f else { f with payload := byte2 level }

/-- R140, R149: L and T are set to the level of a forwarded station POWER frame, and a POWER frame of the part's that
waits is replaced by one carrying it, as at each event that changes L (notes/assumptions/42.md). -/
def Part.setLevel (s : Part) (l : Nat) : Part :=
  let s' := s.setRamp { s.ramp with level := l, target := l }
  s'.setStation { s'.station with power := s'.station.power.map fun _ => l }

/-- R148, R170: a station POWER frame addressed to node 24. -/
def Part.takePower (f : Frame) (s : Part) : Part :=
  if !s.isInPattern then s.refuse f .state
  else if f.payload.length ≠ 2 then s.refuse f .guarded
  else if s.ramp.inProgress then s.refuse f .busy
  else if s.station.queue.length < queuePlaces then
    let l := s.clampedLevel (payload16 f.payload 0)
    (s.setLevel l).queueStation .station (rewriteLevel f l)
  else s.countDiscard .station

/-! ### Frames from the station (R146, R168) -/

/-- R146, R189: a TX_STATE from node 24 is taken by the Ramp Engine. -/
def Part.takeTxState (f : Frame) (s : Part) : Part :=
  if f.kind = FrameKind.txState.code ∧ f.src = txNode ∧ f.payload.length = 2 then
    (s.setRamp { s.ramp with lastReported := some (payload16 f.payload 0) }).settleRamp Part.slotTaken
  else s

/-- R168: the disposal of a valid frame received at the Station Port, by its destination and kind. -/
def Part.disposeStation (f : Frame) (s : Part) : Part :=
  if f.dst = 0 then
    if f.kind = FrameKind.mgmtReq.code then s.takeRequest f.src f.payload
    else if f.kind = FrameKind.time.code then s.takeTime f.payload
    else s
  else if within 1 23 f.dst.toNat ∨ f.dst = 31 then s.guardField f
  else if isPower f then s.takePower f
  else if within 24 30 f.dst.toNat then s.queueStation .station f
  else s

/-- R164, R168: a valid frame is received at the Station Port. A TX_STATE from node 24 is taken before it is
disposed of. -/
def Part.receiveStation (f : Frame) (s : Part) : Part :=
  ((s.linkAlive .station).takeTxState f).disposeStation f

/-- R165: received bytes: a frame that fails the envelope checks is discarded without a trace. -/
def Part.receiveBytes (p : Port) (bytes : List Byte) (s : Part) : Part :=
  match frameOfBytes bytes, p with
  | none, _ => s
  | some f, .field => s.receiveField f
  | some f, .station => s.receiveStation f

end Sys2Proof.Machine
end

