-- ==== Sys2Proof/Machine/Timers.lean ====
section
/-! DEFINITION. Expiries of the part's deadlines, the input lines, and what passes while no command waits
(notes/assumptions/3.md). -/

namespace Sys2Proof.Machine

/-- The expiry of a deadline, at its time of the uptime counter; a deadline that is none cannot expire (R72). -/
def Part.expire (d : Option Uptime) (op : Uptime → Part → Part) (s : Part) : Part :=
  match d with
  | none => s
  | some d => op d (s.atDeadline d)

/-- R20: the Block Timer's interval. -/
def blockTime : Nat := 2

/-- R20: the Block Timer expires and starts one block. -/
def Part.blockExpires (s : Part) : Part :=
  s.expire (some s.timer.deadline) fun d s =>
    (s.setTimer { s.timer with deadline := after d blockTime }).startBlock

/-- R4: the non-volatile licence write completes. -/
def Part.licenceDone (s : Part) : Part :=
  s.expire (s.tables.licenceWrite.map LicenceWrite.deadline) fun _ s =>
    s.setTables { s.tables with licenceWrite := none }

/-- R100: an element's silence deadline expires. -/
def Part.silenceExpires (e : Elem) (s : Part) : Part :=
  s.expire (s.silenceDeadline e) fun _ s => s.fallSilent e

/-- R105: the deadline of an element's command expires. -/
def Part.commandDue (e : Elem) (s : Part) : Part :=
  match s.elems[e].command with
  | none => s
  | some c => (s.atDeadline c.deadline).commandExpires e c

/-- R115: a dwell ends. -/
def Part.dwellExpires (s : Part) : Part := s.expire s.walk.dwellDeadline fun _ s => s.dwellOver

/-- R80, R116: the phase deadline expires: MUTE_TIMEOUT. -/
def Part.phaseExpires (s : Part) : Part :=
  s.expire (s.change?.bind Change.phaseDeadline) fun _ s =>
    (s.setPhaseDeadline none).raise .muteTimeout .nothing .b

/-- R86: the settle deadline expires: SETTLE_TIMEOUT. -/
def Part.settleExpires (s : Part) : Part :=
  s.expire (s.change?.bind Change.settleDeadline) fun _ s =>
    (s.modifyChange fun c => { c with settleDeadline := none }).raise .settleTimeout .nothing .b

/-- R140, R141: the next send time comes. -/
def Part.sendDue (s : Part) : Part :=
  s.expire s.ramp.nextSend fun _ s => s.sendRamp.settleRamp Part.slotTaken

/-- R143: the ramp deadline expires: RAMP_TIMEOUT. -/
def Part.rampExpires (s : Part) : Part :=
  s.expire s.ramp.deadline fun _ s =>
    let s' := s.setRamp { s.ramp with deadline := none }
    if s.ramp.inProgress then s'.raise .rampTimeout .nothing s'.classBC else s'

/-- The link state of a port. -/
def Part.link (s : Part) (p : Port) : Link :=
  match p with
  | .field => s.field.link
  | .station => s.station.link

/-- R164: a port's link deadline expires. -/
def Part.linkExpires (p : Port) (s : Part) : Part := s.expire (s.link p).deadline fun _ s => s.linkLost p

/-- R180: the one-second timer of a SET clock expires. -/
def Part.secondExpires (s : Part) : Part :=
  match s.clock.time with
  | none => s
  | some c => s.expire s.clock.second fun d s => s.advanceClock c d

/-- R181, R182: an evaluation of the schedule; it settles one that a promotion has left to be taken. -/
def Part.scheduleDue (s : Part) : Part := (s.setSched { s.sched with evalDue := false }).evaluate

/-- R182: the evaluation that a promotion caused is taken after the accepting event, as an event of its own, before any
other: its request meets the state that event left (notes/assumptions/11.md). -/
def Part.evaluated (s : Part) : Part := if s.sched.evalDue then s.event Part.scheduleDue else s

/-! ### Lines (R147, R183) -/

/-- A change of an input line. A part held in reset follows the line's level and takes no event (R183). -/
def Part.lineEvent (level : Lines → Lines) (op : Part → Part) (s : Part) : Part :=
  if s.held then s.setLines (level s.lines) else s.event fun s => op (s.setLines (level s.lines))

/-- R147: TX_TRIP is asserted. -/
def Part.tripAsserted (s : Part) : Part :=
  if s.lines.txTrip then s else s.lineEvent (fun l => { l with txTrip := true }) Part.raiseTrip

/-- R147: the end of a trip: its record ends and, with INHIBIT released, the transmitter is told the present level. -/
def Part.endTrip (s : Part) : Part :=
  let s' := s.endCondition .txTrip .nothing
  if s'.ramp.inhibit then s' else s'.handPower s'.ramp.level

/-- R147: TX_TRIP is released. -/
def Part.tripReleased (s : Part) : Part :=
  if s.lines.txTrip then s.lineEvent (fun l => { l with txTrip := false }) Part.endTrip else s

/-- R183: LOCAL is asserted. It raises no request. -/
def Part.localAsserted (s : Part) : Part := s.lineEvent (fun l => { l with localOn := true }) id

/-- R181, R182: the evaluation at a release of LOCAL. -/
def Part.evaluateRelease (s : Part) : Part := if s.sched.owed then s.evaluateOwed else s.evaluate

/-- R182, R183: LOCAL is released. -/
def Part.localReleased (s : Part) : Part :=
  if s.lines.localOn then s.lineEvent (fun l => { l with localOn := false }) Part.evaluateRelease else s

/-- R183: a rising edge of PANEL_GO with PANEL_SEL at a pattern. -/
def Part.panelGo (sel : Pat) (s : Part) : Part :=
  let s' := s.setLines { s.lines with panelSel := sel }
  if s'.lines.localOn then s'.raiseRequest .panel (some sel) else s'

/-- R183: a rising edge of PANEL_STOP. -/
def Part.panelStop (s : Part) : Part := if s.lines.localOn then s.raiseRequest .panel none else s

/-- R8, R137, R147, R184: a cold reset as an event. -/
def Part.coldResetEvent (held : Bool) (s : Part) : Part :=
  if held then (s.coldReset true).drivePins else (s.coldReset false).endReset.settle.drivePins

/-- R183, R20: the release of RESET_N: the lines' levels are taken, and the reset ends. -/
def Part.resetReleased (levels : Lines) (s : Part) : Part :=
  if s.held then ((s.setHeld false).setLines levels).endReset.settle.drivePins else s

/-- R4, R177: LICENCE_KEY as sampled. -/
def Part.setKey (s : Part) (key : Bool) : Part := s.setLines { s.lines with licenceKey := key }

/-! ### While no command waits (notes/assumptions/3.md) -/

/-- A deadline that has come. -/
def Part.isDue (s : Part) (d : Option Uptime) : Bool :=
  match d with
  | none => false
  | some d => due s.uptime d

/-- A command where a condition holds. -/
def when (b : Bool) (i : Instr) : List Instr := if b then [i] else []

/-- The expiries whose time has come. -/
def Part.deadlinesDue (s : Part) : List Instr :=
  when (s.isDue (some s.timer.deadline)) .blockTimerExpiry ++
  when (s.isDue (s.tables.licenceWrite.map LicenceWrite.deadline)) .licenceWriteComplete ++
  elements.flatMap (fun e => when (s.isDue (s.silenceDeadline e)) (.silenceDeadline e)) ++
  elements.flatMap (fun e => when (s.isDue (s.elems[e].command.map Command.deadline)) (.commandDeadline e)) ++
  when (s.isDue s.walk.dwellDeadline) .dwellEnd ++
  when (s.isDue (s.change?.bind Change.phaseDeadline)) .phaseDeadline ++
  when (s.isDue (s.change?.bind Change.settleDeadline)) .settleDeadline ++
  when (s.isDue s.ramp.nextSend) .rampSend ++
  when (s.isDue s.ramp.deadline) .rampDeadline ++
  when (s.isDue s.field.link.deadline) (.linkDeadline .field) ++
  when (s.isDue s.station.link.deadline) (.linkDeadline .station) ++
  when (s.clock.time.isSome && s.isDue s.clock.second) .clockSecond

/-- What may be taken next of itself: the schedule evaluation that is due, which no expiry goes before (R182), or the
expiries whose time has come. -/
def Part.expiries (s : Part) : List Instr := if s.sched.evalDue then [.scheduleEvaluation] else s.deadlinesDue

/-- What passes while no command waits: an expiry that is due is queued, one of several by a free choice; otherwise one
millisecond passes. A part held in reset stands still. -/
def State.idle (s : State) : State :=
  if s.part.held then s
  else
    match s.part.expiries with
    | [] => { s with part := s.part.setUptime (s.part.uptime + 1) }
    | [i] => { s with pending := [i] }
    | i :: j :: l =>
      let k := Config.tieBreak s.part.free % (l.length + 2)
      { pending := [(i :: j :: l).getD k i], part := s.part.nextFree }

/-- A command's effect on the part as it stands; the queue of the commands that wait is left to `step`. -/
def State.runNow (s : State) (op : Part → Part) : Host.Outcome State Fault Refusal :=
  .next { s with part := op s.part }

/-- A command's effect on the part, after the evaluation that is due (R182). -/
def State.run (s : State) (op : Part → Part) : Host.Outcome State Fault Refusal :=
  s.runNow fun p => op p.evaluated

end Sys2Proof.Machine
end

