-- ==== Sys2Proof/Machine/FieldCommands.lean ====
section
/-! DEFINITION. The commands of the Field Port's receive side, and of bytes received at either port. -/

namespace Sys2Proof.Machine

/-- SAMPLE_ARRIVAL: R26: a SAMPLE frame for node 0. -/
def execSampleArrival (src : Byte) (payload : List Byte) (s : State) : Host.Outcome State Fault Refusal :=
  s.run (Part.event fun s =>
    s.receiveField { dst := 0, src := src, kind := FrameKind.sample.code, payload := payload })

/-- STATE_FRAME: R98: a STATE frame for node 0. -/
def execStateFrame (src : Byte) (payload : List Byte) (s : State) : Host.Outcome State Fault Refusal :=
  s.run (Part.event fun s =>
    s.receiveField { dst := 0, src := src, kind := FrameKind.state.code, payload := payload })

/-- FIELD_FRAME_RELAY: R166: a field frame that is relayed to the station. -/
def execFieldFrameRelay (f : Frame) (s : State) : Host.Outcome State Fault Refusal :=
  s.run (Part.event fun s => s.receiveField f)

/-- FIELD_FRAME_DISCARD: R166: a field frame that is discarded. -/
def execFieldFrameDiscard (f : Frame) (s : State) : Host.Outcome State Fault Refusal :=
  s.run (Part.event fun s => s.receiveField f)

/-- FRAME_ENVELOPE_FAIL: R165: received bytes that fail the envelope checks. -/
def execFrameEnvelopeFail (port : Port) (bytes : List Byte) (s : State) : Host.Outcome State Fault Refusal :=
  s.run (Part.event fun s => s.receiveBytes port bytes)

end Sys2Proof.Machine
end

