-- ==== Sys2Proof/Machine/LineCommands.lean ====
section
/-! DEFINITION. The commands of the input lines and of the cold reset. -/

namespace Sys2Proof.Machine

/-- COLD_RESET: R8: a cold reset, which leaves nothing of an evaluation that is due. -/
def execColdReset (held : Bool) (s : State) : Host.Outcome State Fault Refusal :=
  s.runNow (Part.coldResetEvent held)

/-- TX_TRIP_ASSERT: R147: an assertion of TX_TRIP. -/
def execTxTripAssert (s : State) : Host.Outcome State Fault Refusal :=
  s.run Part.tripAsserted

/-- TX_TRIP_RELEASE: R147: a release of TX_TRIP. -/
def execTxTripRelease (s : State) : Host.Outcome State Fault Refusal :=
  s.run Part.tripReleased

/-- LOCAL_ASSERT: R183: an assertion of LOCAL. -/
def execLocalAssert (s : State) : Host.Outcome State Fault Refusal :=
  s.run Part.localAsserted

/-- LOCAL_RELEASE: R182: a release of LOCAL. -/
def execLocalRelease (s : State) : Host.Outcome State Fault Refusal :=
  s.run Part.localReleased

/-- PANEL_GO: R183: a rising edge of PANEL_GO. -/
def execPanelGo (sel : Pat) (s : State) : Host.Outcome State Fault Refusal :=
  s.run (Part.event fun s => s.panelGo sel)

/-- PANEL_STOP: R183: a rising edge of PANEL_STOP. -/
def execPanelStop (s : State) : Host.Outcome State Fault Refusal :=
  s.run (Part.event fun s => s.panelStop)

/-- RESET_N_RELEASE: R183: the release of RESET_N. -/
def execResetNRelease (levels : Lines) (s : State) : Host.Outcome State Fault Refusal :=
  s.run (Part.resetReleased levels)

end Sys2Proof.Machine
end

