-- ==== Sys2Proof/Machine/ManagementCommands.lean ====
section
/-! DEFINITION. The management requests. Each arrives in a valid frame at the Station Port (R164). -/

namespace Sys2Proof.Machine

/-- READ_BLOCK: R1. -/
def execReadBlock (src tag n : Byte) (s : State) : Host.Outcome State Fault Refusal :=
  s.run (Part.event fun s => (s.linkAlive .station).readBlock src tag n)

/-- WRITE_BLOCK: R2, with LICENCE_KEY sampled as the request is taken. -/
def execWriteBlock (src tag n : Byte) (key : Bool) (data : List Byte) (s : State) :
    Host.Outcome State Fault Refusal :=
  s.run (Part.event fun s => ((s.linkAlive .station).setKey key).writeBlock src tag n data)

/-- COMMIT: R18. -/
def execCommit (src tag : Byte) (s : State) : Host.Outcome State Fault Refusal :=
  s.run (Part.event fun s => (s.linkAlive .station).commit src tag)

/-- CHANGE: R74. -/
def execChange (src tag p : Byte) (s : State) : Host.Outcome State Fault Refusal :=
  s.run (Part.event fun s => (s.linkAlive .station).request src tag .change (some p.toNat))

/-- STOP: R74. -/
def execStop (src tag : Byte) (s : State) : Host.Outcome State Fault Refusal :=
  s.run (Part.event fun s => (s.linkAlive .station).request src tag .stop none)

/-- ABORT: R91. -/
def execAbort (src tag : Byte) (s : State) : Host.Outcome State Fault Refusal :=
  s.run (Part.event fun s => (s.linkAlive .station).abort src tag)

/-- RECOVER: R94. -/
def execRecover (src tag : Byte) (s : State) : Host.Outcome State Fault Refusal :=
  s.run (Part.event fun s => (s.linkAlive .station).recover src tag)

/-- READ_STATUS: R177, with LICENCE_KEY as the request is taken. -/
def execReadStatus (src tag : Byte) (key : Bool) (s : State) : Host.Outcome State Fault Refusal :=
  s.run (Part.event fun s => ((s.linkAlive .station).setKey key).readStatus src tag)

/-- READ_READINGS: R176. -/
def execReadReadings (src tag : Byte) (s : State) : Host.Outcome State Fault Refusal :=
  s.run (Part.event fun s => (s.linkAlive .station).readReadings src tag)

/-- READ_FAULTS: R176. -/
def execReadFaults (src tag start : Byte) (s : State) : Host.Outcome State Fault Refusal :=
  s.run (Part.event fun s => (s.linkAlive .station).readFaults src tag start)

/-- CLEAR_FAULTS: R161. -/
def execClearFaults (src tag : Byte) (s : State) : Host.Outcome State Fault Refusal :=
  s.run (Part.event fun s => (s.linkAlive .station).clearFaults src tag)

/-- RESET: R178. -/
def execReset (src tag : Byte) (s : State) : Host.Outcome State Fault Refusal :=
  s.run (Part.event fun s => (s.linkAlive .station).resetRequest src tag)

/-- MGMT_UNKNOWN: R175: a MGMT_REQ, decided by its code and length. -/
def execMgmtUnknown (src : Byte) (payload : List Byte) (s : State) : Host.Outcome State Fault Refusal :=
  s.run (Part.event fun s => (s.linkAlive .station).takeRequest src payload)

end Sys2Proof.Machine
end

