-- ==== Sys2Proof/Machine/StationCommands.lean ====
section
/-! DEFINITION. The commands of the other frames received at the Station Port. -/

namespace Sys2Proof.Machine

/-- TIME: R180: a TIME frame for node 0. -/
def execTime (src : Byte) (payload : List Byte) (s : State) : Host.Outcome State Fault Refusal :=
  s.run (Part.event fun s =>
    s.receiveStation { dst := 0, src := src, kind := FrameKind.time.code, payload := payload })

/-- TX_STATE: R146: a TX_STATE frame from node 24. -/
def execTxState (dst : Byte) (payload : List Byte) (s : State) : Host.Outcome State Fault Refusal :=
  s.run (Part.event fun s =>
    s.receiveStation { dst := dst, src := txNode, kind := FrameKind.txState.code, payload := payload })

/-- STATION_ELEM_CMD_CONTACTOR: R110: a station ELEM_CMD that names a contactor. -/
def execStationElemCmdContactor (dst src : Byte) (payload : List Byte) (s : State) :
    Host.Outcome State Fault Refusal :=
  s.run (Part.event fun s =>
    s.receiveStation { dst := dst, src := src, kind := FrameKind.elemCmd.code, payload := payload })

/-- STATION_ELEM_CMD_ACTUATOR: R134: a station ELEM_CMD that names an actuator. -/
def execStationElemCmdActuator (dst src : Byte) (payload : List Byte) (s : State) :
    Host.Outcome State Fault Refusal :=
  s.run (Part.event fun s =>
    s.receiveStation { dst := dst, src := src, kind := FrameKind.elemCmd.code, payload := payload })

/-- BROADCAST_ELEM_CMD: R169: a station ELEM_CMD for node 31. -/
def execBroadcastElemCmd (src : Byte) (payload : List Byte) (s : State) : Host.Outcome State Fault Refusal :=
  s.run (Part.event fun s =>
    s.receiveStation { dst := 31, src := src, kind := FrameKind.elemCmd.code, payload := payload })

/-- FIELD_BOUND_FORWARD: R169: a station frame for field nodes that names no known element. -/
def execFieldBoundForward (f : Frame) (s : State) : Host.Outcome State Fault Refusal :=
  s.run (Part.event fun s => s.receiveStation f)

/-- STATION_POWER: R148: a station POWER frame for node 24. -/
def execStationPower (src : Byte) (payload : List Byte) (s : State) : Host.Outcome State Fault Refusal :=
  s.run (Part.event fun s =>
    s.receiveStation { dst := txNode, src := src, kind := FrameKind.power.code, payload := payload })

/-- STATION_FRAME_RELAY: R168: a station frame that is relayed to a station node. -/
def execStationFrameRelay (f : Frame) (s : State) : Host.Outcome State Fault Refusal :=
  s.run (Part.event fun s => s.receiveStation f)

/-- STATION_FRAME_DISCARD: R168: a station frame that is discarded. -/
def execStationFrameDiscard (f : Frame) (s : State) : Host.Outcome State Fault Refusal :=
  s.run (Part.event fun s => s.receiveStation f)

end Sys2Proof.Machine
end

