-- ==== Sys2Proof/Machine/TimerCommands.lean ====
section
/-! DEFINITION. The expiries of deadlines and the ends of transmissions. -/

namespace Sys2Proof.Machine

/-- BLOCK_TIMER_EXPIRY: R20: the Block Timer expires. -/
def execBlockTimerExpiry (s : State) : Host.Outcome State Fault Refusal :=
  s.run (Part.event fun s => s.blockExpires)

/-- LICENCE_WRITE_COMPLETE: R4: the licence write completes. -/
def execLicenceWriteComplete (s : State) : Host.Outcome State Fault Refusal :=
  s.run (Part.event fun s => s.licenceDone)

/-- SILENCE_DEADLINE: R100: an element's silence deadline. -/
def execSilenceDeadline (e : Elem) (s : State) : Host.Outcome State Fault Refusal :=
  s.run (Part.event fun s => s.silenceExpires e)

/-- COMMAND_DEADLINE: R105: the deadline of an element's command. -/
def execCommandDeadline (e : Elem) (s : State) : Host.Outcome State Fault Refusal :=
  s.run (Part.event fun s => s.commandDue e)

/-- DWELL_END: R115: the end of a dwell. -/
def execDwellEnd (s : State) : Host.Outcome State Fault Refusal :=
  s.run (Part.event fun s => s.dwellExpires)

/-- PHASE_DEADLINE: R80: the phase deadline. -/
def execPhaseDeadline (s : State) : Host.Outcome State Fault Refusal :=
  s.run (Part.event fun s => s.phaseExpires)

/-- SETTLE_DEADLINE: R86: the settle deadline. -/
def execSettleDeadline (s : State) : Host.Outcome State Fault Refusal :=
  s.run (Part.event fun s => s.settleExpires)

/-- RAMP_SEND: R140: the next send time. -/
def execRampSend (s : State) : Host.Outcome State Fault Refusal :=
  s.run (Part.event fun s => s.sendDue)

/-- RAMP_DEADLINE: R143: the ramp deadline. -/
def execRampDeadline (s : State) : Host.Outcome State Fault Refusal :=
  s.run (Part.event fun s => s.rampExpires)

/-- LINK_DEADLINE: R164: a port's link deadline. -/
def execLinkDeadline (port : Port) (s : State) : Host.Outcome State Fault Refusal :=
  s.run (Part.event fun s => s.linkExpires port)

/-- CLOCK_SECOND: R180: the one-second timer. -/
def execClockSecond (s : State) : Host.Outcome State Fault Refusal :=
  s.run (Part.event fun s => s.secondExpires)

/-- SCHEDULE_EVALUATION: R181: an evaluation of the schedule. -/
def execScheduleEvaluation (s : State) : Host.Outcome State Fault Refusal :=
  s.runNow (Part.event fun s => s.scheduleDue)

/-- TRANSMISSION_END: R172: the end of a port's transmission. -/
def execTransmissionEnd (port : Port) (s : State) : Host.Outcome State Fault Refusal :=
  s.run (Part.event fun s => s.endTransmission port)

end Sys2Proof.Machine
end

