-- ==== Sys2Proof/Machine/Dispatch.lean ====
section
/-! DEFINITION. One arm per command, each a direct call of its meaning. -/

namespace Sys2Proof.Machine

def exec (i : Instr) (s : State) : Host.Outcome State Fault Refusal :=
  match i with
  | .coldReset held => Sys2Proof.Machine.execColdReset held s
  | .blockTimerExpiry => Sys2Proof.Machine.execBlockTimerExpiry s
  | .sampleArrival src payload => Sys2Proof.Machine.execSampleArrival src payload s
  | .stateFrame src payload => Sys2Proof.Machine.execStateFrame src payload s
  | .fieldFrameRelay f => Sys2Proof.Machine.execFieldFrameRelay f s
  | .fieldFrameDiscard f => Sys2Proof.Machine.execFieldFrameDiscard f s
  | .frameEnvelopeFail port bytes => Sys2Proof.Machine.execFrameEnvelopeFail port bytes s
  | .readBlock src tag n => Sys2Proof.Machine.execReadBlock src tag n s
  | .writeBlock src tag n key data => Sys2Proof.Machine.execWriteBlock src tag n key data s
  | .licenceWriteComplete => Sys2Proof.Machine.execLicenceWriteComplete s
  | .commit src tag => Sys2Proof.Machine.execCommit src tag s
  | .change src tag p => Sys2Proof.Machine.execChange src tag p s
  | .stop src tag => Sys2Proof.Machine.execStop src tag s
  | .abort src tag => Sys2Proof.Machine.execAbort src tag s
  | .recover src tag => Sys2Proof.Machine.execRecover src tag s
  | .readStatus src tag key => Sys2Proof.Machine.execReadStatus src tag key s
  | .readReadings src tag => Sys2Proof.Machine.execReadReadings src tag s
  | .readFaults src tag start => Sys2Proof.Machine.execReadFaults src tag start s
  | .clearFaults src tag => Sys2Proof.Machine.execClearFaults src tag s
  | .reset src tag => Sys2Proof.Machine.execReset src tag s
  | .mgmtUnknown src payload => Sys2Proof.Machine.execMgmtUnknown src payload s
  | .time src payload => Sys2Proof.Machine.execTime src payload s
  | .txState dst payload => Sys2Proof.Machine.execTxState dst payload s
  | .stationElemCmdContactor dst src payload => Sys2Proof.Machine.execStationElemCmdContactor dst src payload s
  | .stationElemCmdActuator dst src payload => Sys2Proof.Machine.execStationElemCmdActuator dst src payload s
  | .broadcastElemCmd src payload => Sys2Proof.Machine.execBroadcastElemCmd src payload s
  | .fieldBoundForward f => Sys2Proof.Machine.execFieldBoundForward f s
  | .stationPower src payload => Sys2Proof.Machine.execStationPower src payload s
  | .stationFrameRelay f => Sys2Proof.Machine.execStationFrameRelay f s
  | .stationFrameDiscard f => Sys2Proof.Machine.execStationFrameDiscard f s
  | .txTripAssert => Sys2Proof.Machine.execTxTripAssert s
  | .txTripRelease => Sys2Proof.Machine.execTxTripRelease s
  | .localAssert => Sys2Proof.Machine.execLocalAssert s
  | .localRelease => Sys2Proof.Machine.execLocalRelease s
  | .panelGo sel => Sys2Proof.Machine.execPanelGo sel s
  | .panelStop => Sys2Proof.Machine.execPanelStop s
  | .silenceDeadline e => Sys2Proof.Machine.execSilenceDeadline e s
  | .commandDeadline e => Sys2Proof.Machine.execCommandDeadline e s
  | .dwellEnd => Sys2Proof.Machine.execDwellEnd s
  | .phaseDeadline => Sys2Proof.Machine.execPhaseDeadline s
  | .settleDeadline => Sys2Proof.Machine.execSettleDeadline s
  | .rampSend => Sys2Proof.Machine.execRampSend s
  | .rampDeadline => Sys2Proof.Machine.execRampDeadline s
  | .linkDeadline port => Sys2Proof.Machine.execLinkDeadline port s
  | .clockSecond => Sys2Proof.Machine.execClockSecond s
  | .scheduleEvaluation => Sys2Proof.Machine.execScheduleEvaluation s
  | .transmissionEnd port => Sys2Proof.Machine.execTransmissionEnd port s
  | .resetNRelease levels => Sys2Proof.Machine.execResetNRelease levels s

end Sys2Proof.Machine
end

