-- ==== Sys2Proof/Safety.lean ====
section
/-! DEFINITION. The terms that claims about the 3160 are made in: what an event leaves when it owes no reaction, what a
reply and a handed-over frame do to a port, the invariants of the part, and the values the spec fixes for them. None of
it is used by the model. -/

namespace Sys2Proof.Machine

/-! ### Events -/

/-- What every event leaves besides its own effects when it owes no reaction (R150, R162, R184): nothing is owed, and the
FAULT line and the IN_PATTERN lamp follow the state. -/
def Part.closed (s : Part) : Part :=
  { s with raised := [], pins := { fault := s.faultLine, inPattern := s.inPatternLamp } }

/-- R8, R182: the part takes its next command as it stands: it is not held in reset, and no evaluation is due, which would
be taken first. -/
abbrev Part.taking (s : Part) : Prop := s.held = false ∧ s.sched.evalDue = false

/-- R164: the link of a port at which a valid frame has been received. -/
def Link.heard (now : Uptime) : Link := { up := true, deadline := some (now + 20) }

/-- R164: a valid frame has been received at the Station Port. -/
def Part.stationHeard (s : Part) : Part :=
  { s with station := { s.station with link := Link.heard s.uptime } }

/-- R164: a valid frame has been received at a Field Port that was UP. -/
def Part.fieldHeard (s : Part) : Part :=
  { s with field := { s.field with link := Link.heard s.uptime } }

/-- The uptime at the expiry of a deadline: the deadline's, or the present one where it has already come. -/
def Part.atExpiry (s : Part) (d : Uptime) : Part :=
  if (s.uptime - d).toNat < 2147483648 then s else { s with uptime := d }

/-- A count one higher, which stops at a limit. -/
def upTo (limit n : Nat) : Nat := if n < limit then n + 1 else n

/-! ### Frames at the Station Port -/

/-- R171, R172: a reply placed at the Station Port: lost at a full reply queue, waiting behind a transmission, or sent at
once by a port that does not transmit, which takes the oldest reply first. -/
def StationPort.withReply (p : StationPort) (f : Frame) : StationPort :=
  if 8 ≤ p.replies.length then p
  else
    match p.sending, p.replies with
    | some _, _ => { p with replies := p.replies ++ [f] }
    | none, [] => { p with sending := some f }
    | none, g :: gs => { p with replies := gs ++ [f], sending := some g }

/-- R171: a reply placed. -/
def Part.replied (s : Part) (f : Frame) : Part := { s with station := s.station.withReply f }

/-- R164, R175: what a request leaves that is answered and has no other effect. -/
def Part.answered (s : Part) (f : Frame) : Part := (s.stationHeard.replied f).closed

/-- R175, R190: the reply to a request of a code, with a result and data. -/
def mgmtReply (src tag code result : Byte) (data : List Byte) : Frame :=
  { dst := src, src := 0, kind := 9, payload := [tag, code, result] ++ data }

/-- R170: a frame placed in the station-bound queue behind a transmission, or discarded and counted at the port that
received the original. -/
def Part.relayed (s : Part) (origin : Port) (f : Frame) : Part :=
  if s.station.queue.length < 8 then
    { s with station := { s.station with queue := s.station.queue ++ [{ frame := f, rampSince := false }] } }
  else
    match origin with
    | .field => { s with field := { s.field with discards := upTo 65535 s.field.discards } }
    | .station => { s with station := { s.station with discards := upTo 65535 s.station.discards } }

/-- R171, R188: the REFUSED frame for a frame, with a reason: 1 STATE, 2 GUARD, 3 NOT_QUIET, 4 BUSY. -/
def refusal (f : Frame) (reason : Byte) : Frame :=
  { dst := f.src, src := 0, kind := 11, payload := [f.kind, f.dst, reason] }

/-- The Station Port transmits. -/
abbrev Part.stationBusy (s : Part) : Prop := s.station.sending ≠ none

/-- The Field Port transmits. -/
abbrev Part.fieldBusy (s : Part) : Prop := s.field.sending ≠ none

/-- R170: a station frame placed in the field-bound queue behind a transmission, or discarded and counted. -/
def Part.forwarded (s : Part) (f : Frame) (owner : Option Elem) : Part :=
  if s.field.queue.length < 8 then
    { s with field := { s.field with queue := s.field.queue ++ [{ frame := f, owner := owner }] } }
  else { s with station := { s.station with discards := upTo 65535 s.station.discards } }

/-! ### The course of a change -/

/-- R155: the records after every ACTIVE event record of classes A to C has ended. -/
def eventsEnded (l : List FaultRecord) : List FaultRecord :=
  l.map fun r => if r.active = true ∧ r.kind.isCondition = false ∧ r.cls ≠ .d then { r with active := false } else r

/-- R9, R75: an acceptance makes the promotion: the staged bank is READY, and it is not withheld in IN_PATTERN for an
active pattern that the staged bank does not define. -/
abbrev Part.adopts (s : Part) : Prop :=
  s.tables.staged = .ready ∧
    ¬(s.seq.mode = .inPattern ∧ ∃ q, s.seq.active = some q ∧ (stagedBank s.tables.mem).patDefined q = false)

/-- R10: a promotion leaves the tower count and the TSU node of every installed tower as they were. -/
abbrev Part.keepsTowers (s : Part) : Prop :=
  (stagedBank s.tables.mem).towerCount = s.bank.towerCount ∧
    ∀ k : Tower, s.bank.installed k = true → (stagedBank s.tables.mem).tsuNode k = s.bank.tsuNode k

/-- R9, R10: the part with the staged bank adopted, each element whose kind, unit node or channel changes with a fresh
record. -/
def Part.withStaged (s : Part) : Part :=
  { s with
    tables := { s.tables with mem := s.tables.mem.promote, staged := .clean }
    elems := Vector.ofFn fun e : Fin 40 =>
      if s.bank.identity e = (stagedBank s.tables.mem).identity e then s.elems[e] else ElemRecord.fresh }

/-- R9, R10, R182: what a promotion leaves of the tables, of the licence region and the schedule among them, and of the
Scheduler: the active bank's 43 blocks, and they alone, read as the staged bank's did. -/
def Part.Promoted (s t : Part) : Prop :=
  t.tables = s.withStaged.tables ∧
  (∀ a, t.tables.mem.read a =
    if 5120 ≤ a ∧ a < 7872 then s.tables.mem.read (a - 4096) else s.tables.mem.read a) ∧
  t.sched =
    { s.sched with
      evalDue := s.sched.evalDue || s.bank.scheduleEnable != (stagedBank s.tables.mem).scheduleEnable }

/-- R10, R34, R36, R38: what a promotion leaves of the pairing, the monitor configuration and the readings: all of it
where it keeps the towers; else the quiet runs at 0, no block of a tower that is not installed in any entry, and the
monitor restarted with the new bank's idle parameters. -/
def Part.MonitorPromoted (s t : Part) : Prop :=
  (s.keepsTowers → t.store = s.store ∧ t.corr = s.corr ∧ t.table = s.table) ∧
  (¬s.keepsTowers →
    t.corr.config = t.bank.idleConfig ∧ (∀ k : Tower, t.corr.accums[k] = Accum.clear) ∧
    t.store.epochStart = s.timer.index + 1 ∧
    t.store.entries = s.store.entries.map (fun e =>
      { e with
        epoch := false
        refBlock := if t.bank.installed e.refTower then e.refBlock else none
        held := e.held.filter fun x => t.bank.installed x.1
        combined := e.combined.filter t.bank.installed }) ∧
    (∀ k : Tower, t.table.quietRuns[k] = 0 ∧ t.table.readings[k].state = .pending ∧
      t.table.readings[k].closes = 0 ∧ t.table.readings[k].age = 0) ∧
    (t.table.quiet = true ↔ t.bank.towerCount = 0))

/-- R77: what an accepted request of a source for a target leaves, none for a stop. `q`: the part with its tables as the
acceptance left them. -/
def Part.Started (q t : Part) (src : Source) (target : Option Pat) (adopted : Bool) : Prop :=
  (∃ c, t.seq.mode = .changing c ∧ c.fromPat = q.seq.active ∧ c.toPat = target ∧ c.source = src ∧ c.cause = none ∧
    c.kind = (if q.seq.active = target then .reseat else .normal) ∧ c.moves = q.movesNeeded target ∧ c.verify = 0 ∧
    c.adopted = adopted) ∧
  t.seq.active = q.seq.active ∧ t.seq.slot = q.seq.slot ∧ t.trim.exhausted = [] ∧ t.trim.allowance = true ∧
  (∀ e : Elem, t.elems[e].trimCount = 0) ∧
  t.tables = q.tables ∧ t.timer = q.timer ∧ t.uptime = q.uptime ∧ t.lines = q.lines ∧ t.clock = q.clock ∧
  t.pins.inPattern = false

/-- R92: what the start of a reversion from a change to a defined pattern leaves. -/
def Part.Reverted (s t : Part) (c : Change) (cause : Cause) : Prop :=
  (∃ c', t.seq.mode = .changing c' ∧ c'.fromPat = c.toPat ∧ c'.toPat = c.fromPat ∧ c'.source = .internal ∧
    c'.kind = .revert ∧ c'.cause = some cause ∧ c'.verify = 0 ∧ c'.adopted = false) ∧
  t.seq.active = s.seq.active ∧ t.seq.slot = none ∧ t.trim.exhausted = [] ∧
  (∀ e : Elem, t.elems[e].trimCount = 0) ∧
  t.tables = s.tables ∧ t.timer = s.timer ∧ t.lines = s.lines ∧ t.clock = s.clock ∧ t.sched = s.sched ∧
  t.pins.inPattern = false

/-- R141: a ramp in progress with these levels is complete. -/
abbrev RampEngine.Complete (r : RampEngine) : Prop :=
  r.inProgress = true ∧ r.level = r.target ∧
    ∃ x ∈ r.lastReported, x ≤ r.target + r.tolerance ∧ r.target ≤ x + r.tolerance

/-- R141: the ramp, completed; its next send time goes with it (notes/assumptions/16.md). -/
def RampEngine.completed (r : RampEngine) : RampEngine :=
  { r with inProgress := false, deadline := none, nextSend := none }

/-- R79, R83, R87, R88, R145, R155: what the completion of a ramp leaves in the phases of a change that wait on one, with
no request waiting and a Station Port that transmits. `done`: the ramp as it completes. RAMP_DOWN with QUIET holding goes
on past MUTING, and an entry to IN_PATTERN that raises a class C fault does not stay NORMAL: neither is said here. -/
def Part.RampEnded (s t : Part) (c : Change) (done : RampEngine) (now : Uptime) : Prop :=
  let silenced := t.ramp.inhibit = true ∧ t.ramp.level = 0 ∧ t.ramp.target = 0 ∧ t.ramp.inProgress = false ∧
    t.station.power = some 0
  (c.phase = .rampDown → c.toPat = none →
    silenced ∧ t.seq = { s.seq with mode := .stopped, active := none } ∧ t.corr.config = s.bank.idleConfig) ∧
  ∀ q, c.toPat = some q →
    (c.phase = .rampDown → s.table.quiet = false →
      silenced ∧
      t.seq =
        { s.seq with
          mode := .changing { c with
            phase := .muting, phaseDeadline := some (now + BitVec.ofNat 32 s.bank.muteTimeout) } }) ∧
    (c.phase = .rampToTrim →
      t.ramp = done ∧ t.corr.config = s.bank.patternConfig q ∧
      t.seq =
        { s.seq with
          mode := .changing { c with
            phase := .trimming, verify := 0
            settleDeadline := some (now + BitVec.ofNat 32 (s.bank.settleTimeout q)) } }) ∧
    (c.phase = .rampFinal → s.lines.txTrip = false → s.field.link.up = true →
      (∀ k : Tower, s.bank.installed k = true → s.table.readings[k].state ≠ .stale) →
      (∀ e : Elem, s.silent e = false) →
      t.ramp = done ∧
      t.seq =
        { s.seq with
          mode := .inPattern, sub := .normal, active := some q, ootRun := 0, ootRaised := false, restore := 0 } ∧
      t.faults.records = eventsEnded s.faults.records)

/-- R145: what holds of INHIBIT and the level in each state and phase: INHIBIT is asserted in STOPPED, HALTED, MUTING and
SWITCHING and released in RAMP_TO_TRIM to RAMP_FINAL and IN_PATTERN; while it is asserted L and T are 0 and no ramp is in
progress. R140, R149: a POWER frame of the part's that waits carries L. R8: a part held in reset is STOPPED. -/
def Part.InhibitSound (s : Part) : Prop :=
  (match s.seq.mode with
    | .stopped | .halted => s.ramp.inhibit = true
    | .inPattern => s.ramp.inhibit = false
    | .changing c =>
      match c.phase with
      | .muting | .switching => s.ramp.inhibit = true
      | .rampToTrim | .trimming | .verifying | .rampFinal => s.ramp.inhibit = false
      | .rampDown | .presetting => True) ∧
  (s.ramp.inhibit = true → s.ramp.level = 0 ∧ s.ramp.target = 0 ∧ s.ramp.inProgress = false) ∧
  (s.station.power = none ∨ s.station.power = some s.ramp.level) ∧
  (s.held = true → s.seq.mode = .stopped)

/-! ### Faults -/

/-- R152, R153: the list after a raise that repeats no ACTIVE record and finds a place. -/
def Part.recorded (s : Part) (k : FaultKind) (o : FaultObject) (cls : FaultClass) : Part :=
  { s with
    faults :=
      { s.faults with
        records := s.faults.records ++
          [{ kind := k, cls := cls, object := o, situation := s.situation, pats := s.changePats, first := s.uptime,
             last := s.uptime, clock := s.clock.time, repeats := 0, active := decide (cls ≠ .d) }] } }

/-- R153, R154: a raise of a kind and object repeats no ACTIVE record, and three places are free. -/
abbrev Part.room (s : Part) (k : FaultKind) (o : FaultObject) : Prop :=
  s.faults.records.length ≤ 13 ∧
    ∀ r ∈ s.faults.records, ¬(r.active = true ∧ r.kind = k ∧ r.object = o)

/-- R152: no two ACTIVE records share both kind and object. -/
abbrev FaultUnit.distinct (u : FaultUnit) : Prop :=
  u.records.Pairwise fun r x => ¬(r.active = true ∧ x.active = true ∧ r.kind = x.kind ∧ r.object = x.object)

/-! ### Table Memory -/

/-- R2: `m'` is `m` with the 64 bytes of block n replaced together, and no other byte changed. -/
abbrev Memory.replaced (m m' : Memory) (n : Nat) (data : List Byte) : Prop :=
  m'.wf = true ∧
    ∀ a, m'.read a = if 64 * n ≤ a ∧ a < 64 * n + 64 then data.getD (a - 64 * n) 0 else m.read a

/-! ### Invariants of the part -/

/-- R22, R152, R170, R171: the bounded lists of the part hold no more than their places. -/
abbrev Part.Bounded (s : Part) : Prop :=
  s.store.entries.length ≤ 8 ∧ s.faults.records.length ≤ 16 ∧ s.field.queue.length ≤ 8 ∧
    s.station.queue.length ≤ 8 ∧ s.station.replies.length ≤ 8

/-- R22: at most one entry is open for a block index; an entry holds no tower twice and none that it has combined, and
neither holds nor has combined its reference tower. -/
abbrev Part.StoreSound (s : Part) : Prop :=
  s.store.entries.Pairwise (fun x y => x.index ≠ y.index) ∧
    ∀ e ∈ s.store.entries, e.held.Pairwise (fun x y => x.1 ≠ y.1) ∧
      (∀ x ∈ e.held, x.1 ≠ e.refTower ∧ x.1 ∉ e.combined) ∧ e.refTower ∉ e.combined

/-- R9, R182: a schedule evaluation is due only right after a promotion, which leaves the staged bank CLEAN. -/
abbrev Part.DueSound (s : Part) : Prop := s.sched.evalDue = true → s.tables.staged = .clean

/-- R36: QUIET holds exactly while every installed tower's quiet run is 2 or more; Table Memory is in canonical
form. -/
abbrev Part.QuietSound (s : Part) : Prop := s.tables.mem.wf = true ∧ s.table.quiet = s.quietNow

/-- R162, R184: the FAULT line and the IN_PATTERN lamp follow the state. -/
abbrev Part.PinsSound (s : Part) : Prop :=
  (s.pins.fault = true ↔
    (∃ r ∈ s.faults.records, r.active = true ∧ r.cls ≠ .d) ∨ s.seq.mode = .halted) ∧
  (s.pins.inPattern = true ↔ s.seq.mode = .inPattern ∧ s.seq.sub = .normal)

end Sys2Proof.Machine
end

