-- ==== Sys2Proof/WellFormed.lean ====
section
/-! DEFINITION. Well-formed commands: the frames of each row as R165, R166, R168, R169, R186 and R190 describe them. A
meaning does not rest on it: a frame whose row does not suit it is disposed of by its destination and kind. -/

namespace Sys2Proof

/-- R186: a node, 0..31. -/
def wfNode (n : Byte) : Bool := decide (n.toNat ≤ 31)

/-- R186: a payload of 0 to 200 bytes. -/
def wfPayload (l : List Byte) : Bool := decide (l.length ≤ 200)

/-- R186: a valid frame. -/
def Frame.wf (f : Frame) : Bool := wfNode f.dst && wfNode f.src && wfPayload f.payload

/-- A node lies within lo..hi. -/
def nodeWithin (lo hi : Nat) (n : Byte) : Bool := decide (lo ≤ n.toNat) && decide (n.toNat ≤ hi)

/-- R146: a TX_STATE (kind 6) from node 24. -/
def Frame.isReport (f : Frame) : Bool := f.kind == 6 && f.src == 24

/-- R190: a payload that section 12.3 gives a request for, by its code and length. -/
def knownRequest (payload : List Byte) : Bool :=
  match payload with
  | _ :: code :: args =>
    ((code == 1 || code == 4 || code == 10) && args.length == 1) ||
    (code == 2 && args.length == 65) ||
    ((code == 3 || code == 5 || code == 6 || code == 7 || code == 8 || code == 9 || code == 11 || code == 12) &&
      args.length == 0)
  | _ => false

/-- A well-formed command. -/
def Instr.wf : Instr → Bool
  | .coldReset _ => true
  | .blockTimerExpiry => true
  | .sampleArrival src payload => wfNode src && wfPayload payload
  | .stateFrame src payload => wfNode src && wfPayload payload
  | .fieldFrameRelay f => f.wf && nodeWithin 24 30 f.dst && f.kind != 5
  | .fieldFrameDiscard f =>
    f.wf && (f.kind == 5 || (f.dst == 0 && f.kind != 2 && f.kind != 3) || nodeWithin 1 23 f.dst || f.dst == 31)
  | .frameEnvelopeFail _ bytes => (frameOfBytes bytes).isNone
  | .readBlock src _ _ => wfNode src
  | .writeBlock src _ _ _ data => wfNode src && decide (data.length = 64)
  | .licenceWriteComplete => true
  | .commit src _ => wfNode src
  | .change src _ _ => wfNode src
  | .stop src _ => wfNode src
  | .abort src _ => wfNode src
  | .recover src _ => wfNode src
  | .readStatus src _ _ => wfNode src
  | .readReadings src _ => wfNode src
  | .readFaults src _ _ => wfNode src
  | .clearFaults src _ => wfNode src
  | .reset src _ => wfNode src
  | .mgmtUnknown src payload => wfNode src && wfPayload payload && !knownRequest payload
  | .time src payload => wfNode src && wfPayload payload
  | .txState dst payload => wfNode dst && wfPayload payload
  | .stationElemCmdContactor dst src payload =>
    nodeWithin 16 23 dst && wfNode src && wfPayload payload && !payload.isEmpty
  | .stationElemCmdActuator dst src payload =>
    nodeWithin 16 23 dst && wfNode src && wfPayload payload && !payload.isEmpty
  | .broadcastElemCmd src payload => wfNode src && wfPayload payload
  | .fieldBoundForward f =>
    f.wf && (nodeWithin 1 23 f.dst || (f.dst == 31 && f.kind != 4)) && !f.isReport
  | .stationPower src payload => wfNode src && wfPayload payload
  | .stationFrameRelay f => f.wf && nodeWithin 24 30 f.dst && !(f.kind == 5 && f.dst == 24) && !f.isReport
  | .stationFrameDiscard f => f.wf && f.dst == 0 && f.kind != 7 && f.kind != 8 && !f.isReport
  | .txTripAssert => true
  | .txTripRelease => true
  | .localAssert => true
  | .localRelease => true
  | .panelGo _ => true
  | .panelStop => true
  | .silenceDeadline _ => true
  | .commandDeadline _ => true
  | .dwellEnd => true
  | .phaseDeadline => true
  | .settleDeadline => true
  | .rampSend => true
  | .rampDeadline => true
  | .linkDeadline _ => true
  | .clockSecond => true
  | .scheduleEvaluation => true
  | .transmissionEnd _ => true
  | .resetNRelease _ => true

end Sys2Proof
end

