-- ==== Sys2Proof/Certificates/Slice0/Obligations.lean ====
section
/-! DEFINITION. The statements for the provers. Each docstring names the rules a statement rests on; where a clause is the
model's own choice it names the log entry. -/

open Sys2Proof Sys2Proof.Machine

/-! ### The machine -/

/-- A step with a command waiting runs the command at the front of the queue with the rest of the queue. -/
def Obligations.StepRunsTheFrontCommand : Prop :=
  ∀ (c : Instr) (rest : List Instr) (s : State),
    step { s with pending := c :: rest } = exec c { s with pending := rest }

/-- Every command has an effect in every state and leaves the queue alone (the model's choice, log entry 1). R183, R8:
while RESET_N holds the part in reset, no command but the release of RESET_N, a further cold reset and the changes of
the level lines has any effect (log entry 5). R182: an evaluation that a promotion caused is taken after the accepting
event and before any other: a command that finds it due, other than that evaluation itself and a cold reset, meets the
part that the evaluation leaves. -/
def Obligations.EveryCommandAnswersANextState : Prop :=
  (∀ (c : Instr) (s : State), ∃ t, exec c s = .next t ∧ t.pending = s.pending) ∧
  (∀ (c : Instr) (s : State), s.part.held = true →
    (match c with
      | .coldReset _ | .resetNRelease _ | .txTripAssert | .txTripRelease | .localAssert | .localRelease => True
      | _ => exec c s = .next s)) ∧
  (∀ (c : Instr) (s : State), s.part.held = false → s.part.sched.evalDue = true → s.part.tables.staged ≠ .ready →
    ∃ t, exec .scheduleEvaluation s = .next t ∧ t.pending = s.pending ∧ t.part.taking ∧
      (match c with
        | .coldReset _ | .scheduleEvaluation => True
        | _ => exec c s = exec c t))

/-- With no command waiting, one millisecond passes where nothing is due, and otherwise one of the expiries that are
due is queued (the model's choice, log entry 3). R182: a schedule evaluation that a promotion caused goes before them. -/
def Obligations.IdleStepPassesTimeOrTakesAnExpiry : Prop :=
  ∀ s : State, s.pending = [] →
    (s.part.held = true → step s = .next s) ∧
    (s.part.held = false → s.part.expiries = [] →
      step s = .next { s with part := { s.part with uptime := s.part.uptime + 1 } }) ∧
    (s.part.held = false → s.part.expiries ≠ [] →
      ∃ i ∈ s.part.expiries, ∃ n, step s = .next { pending := [i], part := { s.part with free := n } }) ∧
    (s.part.held = false → s.part.sched.evalDue = true → step s = .next { s with pending := [.scheduleEvaluation] })

/-- R162, R184: after every command that a part not held in reset takes, the FAULT line is asserted exactly while a
record of class A, B or C is ACTIVE or the sequencer is HALTED, and the IN_PATTERN lamp is lit exactly in IN_PATTERN
NORMAL. The level lines that do not change are no events. -/
def Obligations.LinesFollowTheStateAfterEveryCommand : Prop :=
  ∀ (c : Instr) (s t : State), s.part.PinsSound → exec c s = .next t → t.part.PinsSound

/-! ### Resets -/

/-- R8, R20, R22, R33, R37, R51, R36, R61, R71, R97, R112, R119, R137, R163, R164, R170, R180, R182: the state of the
part right after a cold reset has ended. Table Memory reads 0 everywhere, the licence region as delivered, by log entry
7. R1, R36, R145, R152, R162: this state satisfies the invariants that every step keeps. -/
def Obligations.ResetStateHasTheColdResetValues : Prop :=
  let s := State.reset.part
  State.reset.pending = [] ∧
  (∀ a, s.tables.mem.read a = 0) ∧ s.tables.staged = .clean ∧ s.tables.licenceWrite = none ∧
  s.timer.index = 0 ∧ s.store.entries = [] ∧ s.store.epochStart = 1 ∧
  s.corr.config.source = none ∧ s.corr.config.targets = none ∧ s.corr.config.refTower = 0 ∧
  s.corr.config.w = 0 ∧ s.corr.config.s = 0 ∧ (∀ t : Tower, s.corr.accums[t] = Accum.clear) ∧
  (∀ t : Tower, s.table.readings[t] =
    { state := .pending, ratio := if t = 0 then 10000 else 0, phase := 0, closes := 0, age := 0, late := 0,
      inTol := false }) ∧
  (∀ t : Tower, s.table.quietRuns[t] = 0) ∧ s.table.quiet = true ∧ s.table.anyClipped = false ∧
  s.round.counter = 0 ∧ s.round.coverage = [] ∧ s.round.last = .noVerdict ∧ s.round.failing = [] ∧
  s.seq.mode = .stopped ∧ s.seq.sub = .normal ∧ s.seq.active = none ∧ s.seq.ootRun = 0 ∧
  s.seq.ootRaised = false ∧ s.seq.restore = 0 ∧
  s.seq.slot = none ∧ s.seq.anyOverrun = false ∧
  (∀ e : Elem, s.elems[e].contact = .unknown ∧ s.elems[e].motion = .unknown ∧ s.elems[e].position = none ∧
    s.elems[e].lastReport = none ∧ s.elems[e].command = none ∧ s.elems[e].expired = none ∧
    s.elems[e].trimCount = 0 ∧ s.elems[e].settleCount = 0 ∧ s.elems[e].atLimit = false) ∧
  s.walk.state = .idle ∧ s.walk.steps = [] ∧ s.walk.dwellDeadline = none ∧
  s.trim.deferred = [] ∧ s.trim.exhausted = [] ∧ s.trim.allowance = true ∧
  s.ramp.level = 0 ∧ s.ramp.target = 0 ∧ s.ramp.inProgress = false ∧ s.ramp.lastReported = none ∧
  s.ramp.inhibit = true ∧
  s.faults.records = [] ∧ s.faults.overflow = false ∧ s.pins.fault = false ∧ s.pins.inPattern = false ∧
  s.field.link.up = false ∧ s.station.link.up = false ∧ s.field.queue = [] ∧ s.station.queue = [] ∧
  s.field.discards = 0 ∧ s.station.discards = 0 ∧ s.station.replies = [] ∧
  s.uptime = 0 ∧ s.clock.time = none ∧ s.sched.inForce = none ∧ s.sched.lastRaised = none ∧ s.sched.owed = false ∧
  s.QuietSound ∧ s.Bounded ∧ s.StoreSound ∧ s.DueSound ∧ s.faults.distinct ∧ s.InhibitSound ∧ s.PinsSound ∧ s.raised = []

/-- R5, R8, R137, R147: a cold reset leaves every field at its reset value, but for the licence region, whose blocks
keep their contents, a block with a write in flight those it held before, and for the class D record of a TX_TRIP line
that is asserted at its end. The input lines keep their levels and the counter of free values is the model's own. Held
by RESET_N, the part hands over no POWER frame yet. R137, R147: the release of RESET_N ends the reset with the levels of
the lines: one POWER frame carrying 0 goes out, and an asserted TX_TRIP counts as an assertion, raised with class D in
STOPPED. RESET_N released already is no event. The POWER frame is chosen at once by log entry 4, and what RESET_N holds
is log entry 5. -/
def Obligations.ResetsEndWithPowerZero : Prop :=
  (∀ s : State, s.part.tables.mem.wf = true →
    (∀ w, s.part.tables.licenceWrite = some w → w.old.length = 64) →
    ∃ m : Memory, m.wf = true ∧
      (∀ a, m.read a =
        if 256 ≤ a then 0
        else
          match s.part.tables.licenceWrite with
          | some w =>
            if 64 * w.block.val ≤ a ∧ a < 64 * w.block.val + 64 then w.old.getD (a - 64 * w.block.val) 0
            else s.part.tables.mem.read a
          | none => s.part.tables.mem.read a) ∧
      (let T : Tables := { mem := m, licenceWrite := none, staged := .clean }
       let p : Part := { State.reset.part with lines := s.part.lines, tables := T, free := s.part.free }
       exec (.coldReset false) s = .next
          { s with
            part :=
              if s.part.lines.txTrip = true then
                { p with
                  faults :=
                    { records :=
                        [{ kind := .txTrip, cls := .d, object := .nothing, situation := .stopped, pats := none,
                           first := 0, last := 0, clock := none, repeats := 0, active := false }]
                      overflow := false } }
              else p } ∧
       exec (.coldReset true) s =
          .next { s with
            part := { Part.cold with held := true, lines := s.part.lines, tables := T, free := s.part.free } })) ∧
  (∀ (levels : Lines) (s : State),
    (s.part.taking → exec (.resetNRelease levels) s = .next s) ∧
    (s.part.held = true → s.part.raised = [] → s.part.seq.mode = .stopped →
      s.part.station.sending = none → s.part.station.replies = [] →
      let p : Part :=
        { s.part with
          held := false
          lines := levels
          station :=
            { s.part.station with
              power := none, sending := some { dst := 24, src := 0, kind := 5, payload := [0, 0] } } }
      (levels.txTrip = false → exec (.resetNRelease levels) s = .next { s with part := p.closed }) ∧
      (levels.txTrip = true → s.part.room .txTrip .nothing →
        exec (.resetNRelease levels) s = .next { s with part := (p.recorded .txTrip .nothing .d).closed })))

/-- R178: RESET is answered NOT_STOPPED without effect while CHANGING or IN_PATTERN. R178, R38, R36, R51, R61, R137,
R163, R175: a RESET taken in STOPPED or HALTED with TX_TRIP released. The OK reply is the frame in transmission, ahead
of POWER 0, as the port chooses a frame that is handed over at once by log entry 4. The deadline
of a licence write in flight moves with the uptime counter by log entry 31. -/
def Obligations.ResetRequestMakesAWarmReset : Prop :=
  (∀ (src tag : Byte) (s : State), s.part.taking → s.part.seq.mode ≠ .stopped → s.part.seq.mode ≠ .halted →
    exec (.reset src tag) s = .next { s with part := s.part.answered (mgmtReply src tag 12 14 []) }) ∧
  (∀ (src tag : Byte) (s : State), s.part.taking → s.part.lines.txTrip = false →
    s.part.seq.mode = .stopped ∨ s.part.seq.mode = .halted →
    ∃ t, exec (.reset src tag) s = .next t ∧ t.pending = s.pending ∧
      t.part.tables.mem = s.part.tables.mem ∧ t.part.tables.staged = s.part.tables.staged ∧
      t.part.tables.licenceWrite.map LicenceWrite.block = s.part.tables.licenceWrite.map LicenceWrite.block ∧
      t.part.tables.licenceWrite.map LicenceWrite.old = s.part.tables.licenceWrite.map LicenceWrite.old ∧
      (∀ w, s.part.tables.licenceWrite = some w → 2147483648 ≤ (s.part.uptime - w.deadline).toNat →
        t.part.tables.licenceWrite.map LicenceWrite.deadline = some (w.deadline - s.part.uptime)) ∧
      t.part.uptime = 0 ∧ t.part.lines = s.part.lines ∧ t.part.held = false ∧
      t.part.clock.time = s.part.clock.time ∧
      t.part.sched = { s.part.sched with owed := false } ∧
      t.part.faults.overflow = s.part.faults.overflow ∧
      t.part.faults.records = s.part.faults.records.map (fun r =>
        if r.kind = .towerStale ∨ r.kind = .elementSilent ∨ r.kind = .fieldLinkDown then { r with active := false }
        else r) ∧
      t.part.seq = State.reset.part.seq ∧ t.part.elems = State.reset.part.elems ∧
      t.part.walk = State.reset.part.walk ∧ t.part.trim = State.reset.part.trim ∧
      t.part.ramp = State.reset.part.ramp ∧ t.part.timer = State.reset.part.timer ∧
      t.part.store = State.reset.part.store ∧ t.part.round = State.reset.part.round ∧
      t.part.field = State.reset.part.field ∧
      t.part.station =
        { State.reset.part.station with sending := some (mgmtReply src tag 12 0 []), power := some 0 } ∧
      t.part.corr.config = s.part.bank.idleConfig ∧ (∀ k : Tower, t.part.corr.accums[k] = Accum.clear) ∧
      (∀ k : Tower, t.part.table.readings[k] =
        { state := .pending, ratio := if k = s.part.bank.idleRef then 10000 else 0, phase := 0, closes := 0, age := 0,
          late := 0, inTol := false }) ∧
      (∀ k : Tower, t.part.table.quietRuns[k] = 0) ∧ t.part.table.anyClipped = false ∧
      (t.part.table.quiet = true ↔ s.part.bank.towerCount = 0) ∧ t.part.PinsSound)

/-! ### Table Memory -/

/-- R1, R164, R175, R190: READ_BLOCK of a populated block is answered with its 64 bytes, of another RANGE, and changes
nothing but the Station Port. R2: the four checks of a WRITE_BLOCK in their order; a refused request has no effect.
LICENCE_KEY is the line's level as the request is taken. -/
def Obligations.BlockAccessIsCheckedAndAnswered : Prop :=
  (∀ (src tag n : Byte) (s : State), s.part.taking →
    exec (.readBlock src tag n) s = .next
      { s with
        part := s.part.answered
          (if n.toNat ≤ 3 ∨ (16 ≤ n.toNat ∧ n.toNat ≤ 58) ∨ (80 ≤ n.toNat ∧ n.toNat ≤ 122) ∨
              (124 ≤ n.toNat ∧ n.toNat ≤ 126) then
            mgmtReply src tag 1 0 ((List.range 64).map fun k => s.part.tables.mem.read (64 * n.toNat + k))
          else mgmtReply src tag 1 2 []) }) ∧
  (∀ (src tag n : Byte) (key : Bool) (data : List Byte) (s : State), s.part.taking → data.length = 64 →
    let p := { s.part with lines := { s.part.lines with licenceKey := key } }
    let refused := fun r : Byte =>
      exec (.writeBlock src tag n key data) s = .next { s with part := p.answered (mgmtReply src tag 2 r []) }
    let unpopulated := (3 < n.toNat ∧ n.toNat < 16) ∨ (58 < n.toNat ∧ n.toNat < 80) ∨ n.toNat = 123 ∨ 126 < n.toNat
    (unpopulated → refused 2) ∧
    (80 ≤ n.toNat → n.toNat ≤ 122 → refused 3) ∧
    (n.toNat ≤ 3 → key = false → refused 4) ∧
    (n.toNat ≤ 3 → key = true → s.part.tables.licenceWrite ≠ none → refused 5))

/-- R2, R7: an accepted WRITE_BLOCK of a staged block replaces its 64 bytes, leaves the staged bank EDITING and
changes nothing else. R11, R181, R182: an accepted WRITE_BLOCK of a schedule block with the schedule disabled: the
bytes are replaced, the in-force pattern is found again (NONE with the clock UNSET), the owed flag is cleared, and
nothing else changes. -/
def Obligations.AcceptedWriteReplacesTheBlock : Prop :=
  (∀ (src tag n : Byte) (key : Bool) (data : List Byte) (s : State),
    s.part.taking → data.length = 64 → s.part.tables.mem.wf = true → 16 ≤ n.toNat → n.toNat ≤ 58 →
    ∃ m, s.part.tables.mem.replaced m n.toNat data ∧
      exec (.writeBlock src tag n key data) s = .next
        { s with
          part := ({ s.part with
            lines := { s.part.lines with licenceKey := key }
            tables := { s.part.tables with mem := m, staged := .editing } } : Part).answered
              (mgmtReply src tag 2 0 []) }) ∧
  (∀ (src tag n : Byte) (key : Bool) (data : List Byte) (s : State),
    s.part.taking → data.length = 64 → s.part.tables.mem.wf = true → 124 ≤ n.toNat → n.toNat ≤ 126 →
    s.part.bank.scheduleEnable = false →
    ∃ m, s.part.tables.mem.replaced m n.toNat data ∧
      exec (.writeBlock src tag n key data) s = .next
        { s with
          part := ({ s.part with
            lines := { s.part.lines with licenceKey := key }
            tables := { s.part.tables with mem := m }
            sched :=
              { s.part.sched with
                owed := false
                inForce := match s.part.clock.time with
                  | none => none
                  | some c => m.inForce c } } : Part).answered (mgmtReply src tag 2 0 []) })

/-- R2, R4, R7, R144: an accepted WRITE_BLOCK of licence block p whose slot does not govern: the bytes are replaced at
once, the write is in flight for 5 ms with the old contents kept, READY falls back to EDITING, and nothing else
changes. R144, R6: an accepted licence write to the governing slot: T and L are held to the new licensed level, the
POWER frame of a drop waits behind the frame in transmission, and nothing else of the Ramp Engine changes: a ramp in
progress goes on with its deadline. R144, R141: where L then equals T and the last report lies within the ramp
tolerance of T, the ramp in progress is completed, which ends the phase of a change that waits on it (Part.RampEnded,
stated with no request waiting) and elsewhere has no other effect. The next send time goes with the completion by log
entry 16. R4: the completion of a licence write, at its deadline: the region stops being busy and nothing else changes.
The uptime at a completion is that of log entry 3. -/
def Obligations.LicenceWritesTakeEffectAtOnce : Prop :=
  (∀ (src tag n : Byte) (p : Pat) (data : List Byte) (s : State),
    s.part.taking → data.length = 64 → s.part.tables.mem.wf = true → n.toNat = p.val →
    s.part.tables.licenceWrite = none → s.part.governing ≠ some p →
    ∃ m, s.part.tables.mem.replaced m p.val data ∧
      exec (.writeBlock src tag n true data) s = .next
        { s with
          part := ({ s.part with
            lines := { s.part.lines with licenceKey := true }
            tables :=
              { mem := m
                licenceWrite := some
                  { block := p
                    old := (List.range 64).map fun k => s.part.tables.mem.read (64 * p.val + k)
                    deadline := s.part.uptime + 5 }
                staged := if s.part.tables.staged = .ready then .editing else s.part.tables.staged } } :
            Part).answered (mgmtReply src tag 2 0 []) }) ∧
  (∀ (src tag n : Byte) (p : Pat) (data : List Byte) (s : State),
    s.part.taking → data.length = 64 → s.part.tables.mem.wf = true → n.toNat = p.val →
    s.part.tables.licenceWrite = none → s.part.governing = some p → s.part.stationBusy →
    let licensed := min (256 * (data.getD 0 0).toNat + (data.getD 1 0).toNat) 1000
    let clamped :=
      { s.part.ramp with level := min s.part.ramp.level licensed, target := min s.part.ramp.target licensed }
    ∃ t, exec (.writeBlock src tag n true data) s = .next t ∧
      s.part.tables.mem.replaced t.part.tables.mem p.val data ∧
      t.part.tables.licenceWrite = some
        { block := p
          old := (List.range 64).map fun k => s.part.tables.mem.read (64 * p.val + k)
          deadline := s.part.uptime + 5 } ∧
      t.part.tables.staged = (if s.part.tables.staged = .ready then .editing else s.part.tables.staged) ∧
      (let left := fun r : RampEngine =>
        t.part = { s.part with
          raised := []
          lines := { s.part.lines with licenceKey := true }
          pins := t.part.pins
          tables := t.part.tables
          ramp := r
          station :=
            { s.part.station with
              link := Link.heard s.part.uptime
              power := if licensed < s.part.ramp.level then some licensed else s.part.station.power
              replies :=
                if s.part.station.replies.length < 8 then s.part.station.replies ++ [mgmtReply src tag 2 0 []]
                else s.part.station.replies } }
       (¬clamped.Complete → left clamped) ∧
       (clamped.Complete →
        (∀ c, s.part.seq.mode = .changing c →
          c.phase ≠ .rampDown ∧ c.phase ≠ .rampToTrim ∧ c.phase ≠ .rampFinal) →
        left clamped.completed)) ∧
      (∀ c, clamped.Complete → s.part.seq.mode = .changing c → s.part.seq.slot = none →
        Part.RampEnded s.part t.part c clamped.completed s.part.uptime)) ∧
  (∀ (w : LicenceWrite) (s : State), s.part.taking → s.part.tables.licenceWrite = some w →
    exec .licenceWriteComplete s = .next
      { s with
        part := ({ s.part.atExpiry w.deadline with
          tables := { s.part.tables with licenceWrite := none } } : Part).closed })

/-- R18, R7: COMMIT. A pass is answered OK and leaves the staged bank READY; a failure is answered INVALID with the
relative block, the offset and the reason, and leaves it EDITING, each value in one byte by log entry 54. Nothing else
changes. R19: COMMIT reports a violation of the staged bank that no other precedes, by location and then by reason; it
passes exactly a bank without a violation. A tower count outside 2..12 is reported alone, at location 0. R12 to R17: a
violation of each other reason, by the bytes of the bank and of the licence region, at its location. -/
def Obligations.CommitReportsTheLowestViolation : Prop :=
  (∀ (src tag : Byte) (s : State), s.part.taking →
    (s.part.tables.mem.validate = none →
      exec (.commit src tag) s = .next
        { s with
          part := ({ s.part with tables := { s.part.tables with staged := .ready } } : Part).answered
            (mgmtReply src tag 3 0 []) }) ∧
    ∀ v, s.part.tables.mem.validate = some v →
      exec (.commit src tag) s = .next
        { s with
          part := ({ s.part with tables := { s.part.tables with staged := .editing } } : Part).answered
            (mgmtReply src tag 3 6
              [BitVec.ofNat 8 (v.pos / 64), BitVec.ofNat 8 (v.pos % 64), BitVec.ofNat 8 v.reason.code]) }) ∧
  (∀ m : Memory,
    (m.validate = none ↔ (stagedBank m).violations m = []) ∧
    (∀ v, m.validate = some v → v ∈ (stagedBank m).violations m ∧
      ∀ x ∈ (stagedBank m).violations m,
        v.pos < x.pos ∨ (v.pos = x.pos ∧ v.reason.code ≤ x.reason.code)) ∧
    ((m.read 1024).toNat < 2 ∨ 12 < (m.read 1024).toNat →
      m.validate = some { pos := 0, reason := .towerCount })) ∧
  (∀ m : Memory,
    let b := fun k => (m.read (1024 + k)).toNat
    let w := fun k => 256 * b k + b (k + 1)
    let licence := fun k => 256 * (m.read k).toNat + (m.read (k + 1)).toNat
    let reported := fun pos r => ({ pos := pos, reason := r } : Violation) ∈ (stagedBank m).violations m
    2 ≤ b 0 → b 0 ≤ 12 →
    (∀ t u, u < t → t < b 0 →
      (b (1 + t) = 0 ∨ 15 < b (1 + t) → reported (1 + t) .range) ∧
      (1 ≤ b (1 + t) → b (1 + t) ≤ 15 → b (1 + u) = b (1 + t) → reported (1 + t) .nodeClash)) ∧
    (∀ e, e < 40 → b (128 + 8 * e) / 64 = 1 →
      32 ≤ ((List.range e).filter fun f => b (128 + 8 * f) / 64 == 1).length → reported (128 + 8 * e) .elementLimit) ∧
    (∀ p, p < 4 →
      let h := 448 + 320 * p
      b h = 1 →
      (b (h + 1) < b 0 → b (h + 24 + 8 * b (h + 1)) = 2 → reported (h + 1) .refRole) ∧
      (w (h + 2) ≤ 1000 → licence (64 * p) < w (h + 2) → reported (h + 2) .levelOverLicence) ∧
      (w (h + 2) < w (h + 4) → w (h + 4) ≤ 1000 → reported (h + 4) .levelOrder) ∧
      (∀ t, t < b 0 → t ≠ b (h + 1) →
        let a := h + 24 + 8 * t
        b a = 1 → b (a + 5) ≤ 200 → licence (64 * p + 2 + 4 * t) < b (a + 5) → reported (a + 5) .tolOverLicence) ∧
      (∀ k, k < 16 →
        let a := h + 120 + 12 * k
        let e := 128 + 8 * b a
        b a < 40 →
        (b e / 64 ≠ 2 → reported a .elementKind) ∧
        (∀ j, j < k → b (h + 120 + 12 * j) = b a → reported a .actuatorTwice) ∧
        (w (a + 10) < w (e + 4) ∨ w (e + 6) < w (a + 10) → reported (a + 10) .presetRange)) ∧
      (∀ k, k < b (1728 + 256 * p) → b (1728 + 256 * p) ≤ 63 →
        let step := fun j => 1732 + 256 * p + 4 * j
        let a := step k
        (∀ j, k = j + 1 → b (a + 2) < b (step j + 2) → b (step j + 2) ≤ 63 → reported (a + 2) .groupOrder) ∧
        (b a < 40 →
          (∀ i j, i < j → j < k → b (step i) = b a → b (step j) = b a → reported a .listRepeat) ∧
          ((∀ j, k < j → j < b (1728 + 256 * p) → b (step j) ≠ b a) →
            (b (a + 1) = 1 ∧ (b (h + 17 + b a / 8)).testBit (7 - b a % 8) = true ∨
              b (a + 1) = 2 ∧ (b (h + 17 + b a / 8)).testBit (7 - b a % 8) = false) →
            reported a .listFinal)))))

/-! ### Blocks, samples and readings -/

/-- R20, R21, R23, R24: an expiry of the Block Timer, in every state: the index advances by one modulo 65536, the next
expiry is 2 ms on, BLOCK_START carries the new index to node 31 (at once from a port that does not transmit, else in
place of one that waits), the oldest of eight entries is evicted, and an entry of the new index is opened last. R22: an
entry still open for that index, from 65536 blocks before, is evicted first, by log entry 49. R20, R21, R23: a block start
with no tower installed, room in the Pairing Store, no entry of the new index and the Field Port transmitting changes the
timer, the waiting BLOCK_START and the store alone. The uptime and the next expiry are those of log entries 3 and 32. -/
def Obligations.BlockTimerExpiryStartsOneBlock : Prop :=
  (∀ s : State, s.part.taking →
    let i := s.part.timer.index + 1
    ∃ t, exec .blockTimerExpiry s = .next t ∧ t.pending = s.pending ∧
      t.part.timer = { index := i, deadline := s.part.timer.deadline + 2 } ∧
      t.part.uptime = (s.part.atExpiry s.part.timer.deadline).uptime ∧
      (let l := s.part.store.entries.filter fun e => decide (e.index ≠ i)
       t.part.store.entries.map Entry.index = (if 8 ≤ l.length then l.tail else l).map Entry.index ++ [i]) ∧
      (s.part.field.sending = none →
        t.part.field.sending = some
          { dst := 31, src := 0, kind := 1,
            payload := [BitVec.ofNat 8 (i.toNat / 256), BitVec.ofNat 8 i.toNat] }) ∧
      (∀ g, s.part.field.sending = some g →
        t.part.field.sending = some g ∧ t.part.field.blockStart = some i) ∧
      t.part.lines = s.part.lines ∧ t.part.clock = s.part.clock ∧ t.part.held = false) ∧
  (∀ s : State, s.part.taking → s.part.bank.towerCount = 0 → s.part.store.entries.length < 8 →
    s.part.fieldBusy →
    let i := s.part.timer.index + 1
    (∀ e ∈ s.part.store.entries, e.index ≠ i) →
    exec .blockTimerExpiry s = .next
      { s with
        part := ({ s.part.atExpiry s.part.timer.deadline with
          timer := { index := i, deadline := s.part.timer.deadline + 2 }
          field := { s.part.field with blockStart := some i }
          store :=
            { s.part.store with
              entries := s.part.store.entries ++
                [{ index := i, refTower := s.part.corr.config.refTower, epoch := true, refBlock := none, held := [],
                   combined := [] }] } } : Part).closed })

/-- R52: at a block start each installed tower's reading ages by one block, stopping at 65535, and goes STALE once its
age exceeds 4W; the other towers' readings are not touched. Stated in STOPPED, where no change can end in the event. R53,
R95, R160: a tower that goes STALE raises TOWER_STALE: in IN_PATTERN with class C, which leaves the array DEGRADED with
the restore count 0, and in STOPPED with class D, which is recorded only. Stated of one tower, with a place in the Pairing
Store, none of its entries evicted, and a place in the fault list. -/
def Obligations.ReadingsAgeAtEachBlockStart : Prop :=
  (∀ s : State, s.part.taking → s.part.seq.mode = .stopped →
    ∃ t, exec .blockTimerExpiry s = .next t ∧
      ∀ k : Tower,
        (s.part.bank.installed k = true →
          t.part.table.readings[k].age = upTo 65535 s.part.table.readings[k].age ∧
          t.part.table.readings[k].state =
            if 4 * 2 ^ s.part.corr.config.w < upTo 65535 s.part.table.readings[k].age then .stale
            else s.part.table.readings[k].state) ∧
        (s.part.bank.installed k = false → t.part.table.readings[k] = s.part.table.readings[k])) ∧
  (∀ (k : Tower) (s : State), s.part.taking → s.part.store.entries.length < 8 →
    (∀ e ∈ s.part.store.entries, e.index ≠ s.part.timer.index + 1) →
    s.part.bank.installed k = true → s.part.table.readings[k].state ≠ .stale →
    4 * 2 ^ s.part.corr.config.w < upTo 65535 s.part.table.readings[k].age →
    (∀ j : Tower, j ≠ k → s.part.bank.installed j = true → s.part.table.readings[j].state ≠ .stale →
      upTo 65535 s.part.table.readings[j].age ≤ 4 * 2 ^ s.part.corr.config.w) →
    s.part.room .towerStale (.tower k) →
    let recordedAs := fun (t : State) (cl : FaultClass) =>
      ∃ r ∈ t.part.faults.records, r.kind = .towerStale ∧ r.cls = cl ∧ r.object = .tower k ∧
        r.active = decide (cl = .c) ∧ r.first = t.part.uptime
    (s.part.seq.mode = .inPattern →
      ∃ t, exec .blockTimerExpiry s = .next t ∧ t.part.seq.mode = .inPattern ∧ t.part.seq.sub = .degraded ∧
        t.part.seq.restore = 0 ∧ t.part.pins = { fault := true, inPattern := false } ∧ recordedAs t .c) ∧
    (s.part.seq.mode = .stopped →
      ∃ t, exec .blockTimerExpiry s = .next t ∧ t.part.seq = s.part.seq ∧ recordedAs t .d))

/-- R26, R164, R189: a SAMPLE whose source is no installed tower's TSU node, or whose length is not 131, has no effect
but on the Field Port's link. R27, R28, R167: a SAMPLE of tower k for block b that pairs nothing. With no entry of b,
a distance behind the timer of at most 32767 makes it late and counts it, stopping at 65535; a larger one raises
SAMPLE_SEQUENCE, class D. In an entry in which the tower already has a block it is a duplicate without effect. In each
case the copy to node 30 is made where the tower's flag asks for it. -/
def Obligations.SampleThatPairsNothing : Prop :=
  (∀ (src : Byte) (payload : List Byte) (s : State), s.part.taking → s.part.field.link.up = true →
    (∀ k : Tower, s.part.bank.installed k = true → s.part.bank.tsuNode k ≠ src.toNat) ∨ payload.length ≠ 131 →
    exec (.sampleArrival src payload) s = .next { s with part := s.part.fieldHeard.closed }) ∧
  (∀ (src : Byte) (payload : List Byte) (k : Tower) (s : State),
    s.part.taking → s.part.field.link.up = true → payload.length = 131 →
    s.part.bank.towerOfNode src = some k → s.part.stationBusy →
    let b : BitVec 16 := payload.getD 0 0 ++ payload.getD 1 0
    let done := fun p : Part =>
      exec (.sampleArrival src payload) s = .next
        { s with
          part := (if s.part.bank.forwardSamples k = true then
            p.relayed .field { dst := 30, src := src, kind := 2, payload := payload } else p).closed }
    let r := s.part.table.readings[k]
    ((∀ e ∈ s.part.store.entries, e.index ≠ b) →
      ((s.part.timer.index - b).toNat ≤ 32767 →
        done { s.part.fieldHeard with
          table :=
            { s.part.table with
              readings := s.part.table.readings.set k.val { r with late := upTo 65535 r.late } } }) ∧
      (32768 ≤ (s.part.timer.index - b).toNat → s.part.room .sampleSequence (.tower k) →
        done (s.part.fieldHeard.recorded .sampleSequence (.tower k) .d))) ∧
    (∀ e, s.part.entryOf b = some e →
      (k = e.refTower ∧ e.refBlock ≠ none) ∨ (∃ x, (k, x) ∈ e.held) ∨ k ∈ e.combined →
      done s.part.fieldHeard))

/-- R31, R35, R36: a SAMPLE of tower k that finds its entry without a reference block is held: its block joins the
held set in tower order, its energy counts in the tower's quiet run, QUIET is found again, and nothing else changes.
Stated in STOPPED and HALTED with no contactor command in flight and forwarding off, where QUIET's change moves
nothing. -/
def Obligations.SampleWithoutReferenceIsHeld : Prop :=
  ∀ (src : Byte) (payload : List Byte) (k : Tower) (e : Entry) (s : State),
    s.part.taking → s.part.field.link.up = true → payload.length = 131 →
    s.part.bank.towerOfNode src = some k → s.part.bank.forwardSamples k = false →
    s.part.seq.mode = .stopped ∨ s.part.seq.mode = .halted →
    (∀ x : Elem, s.part.elems[x].contactInFlight = false) →
    s.part.store.entries.Pairwise (fun x y => x.index ≠ y.index) →
    e ∈ s.part.store.entries → e.index = payload.getD 0 0 ++ payload.getD 1 0 → e.refBlock = none →
    k ≠ e.refTower → (∀ x, (k, x) ∉ e.held) → k ∉ e.combined →
    let x := blockOf payload
    ∃ t, exec (.sampleArrival src payload) s = .next t ∧ t.pending = s.pending ∧
      t.part = ({ s.part.fieldHeard with
        store :=
          { s.part.store with
            entries := s.part.store.entries.map fun y =>
              if y = e then { e with held := addHeld e.held k x } else y }
        table :=
          { s.part.table with
            quiet := t.part.table.quiet
            quietRuns := s.part.table.quietRuns.set k.val
              (if x.power ≤ (s.part.bank.quietLevel : Int) then upTo 255 s.part.table.quietRuns[k] else 0) } } :
        Part).closed ∧
      (t.part.table.quiet = true ↔
        ∀ j : Tower, s.part.bank.installed j = true → 2 ≤ t.part.table.quietRuns[j])

/-- R111, R157, R93: a SAMPLE that loses QUIET while a contactor command is in flight raises RF_IN_SWITCH and halts
the part: INHIBIT is asserted, L and T are 0 with no ramp in progress, no pattern is active, no request waits, and the
FAULT line is asserted. The command stays in flight. R152, R153: with no other contactor command in flight and a place in
the fault list, the record of that contactor stands, class A and ACTIVE. -/
def Obligations.LosingQuietWithAContactorMovingHalts : Prop :=
  ∀ (src : Byte) (payload : List Byte) (k : Tower) (e : Entry) (x : Elem) (c : Command) (s : State),
    s.part.taking → payload.length = 131 → s.part.bank.towerOfNode src = some k →
    s.part.seq.mode ≠ .halted →
    s.part.elems[x].command = some c → c.order.isContact = true → s.part.table.quiet = true →
    s.part.store.entries.Pairwise (fun y z => y.index ≠ z.index) →
    e ∈ s.part.store.entries → e.index = payload.getD 0 0 ++ payload.getD 1 0 → e.refBlock = none →
    k ≠ e.refTower → (∀ y, (k, y) ∉ e.held) → k ∉ e.combined →
    (s.part.bank.quietLevel : Int) < (blockOf payload).power →
    ∃ t, exec (.sampleArrival src payload) s = .next t ∧
      t.part.seq.mode = .halted ∧ t.part.seq.active = none ∧ t.part.seq.slot = none ∧
      t.part.ramp.inhibit = true ∧ t.part.ramp.level = 0 ∧ t.part.ramp.target = 0 ∧ t.part.ramp.inProgress = false ∧
      t.part.table.quiet = false ∧ t.part.elems[x].command = some c ∧ t.part.pins.fault = true ∧
      ((∀ y : Elem, y ≠ x → s.part.elems[y].contactInFlight = false) → s.part.faults.records.length ≤ 15 →
        (∀ r ∈ s.part.faults.records, ¬(r.active = true ∧ r.kind = .rfInSwitch ∧ r.object = .element x)) →
        ∃ r ∈ t.part.faults.records, r.kind = .rfInSwitch ∧ r.cls = .a ∧ r.object = .element x ∧ r.active = true)

/-- R30, R32, R40, R42, R43: a SAMPLE of tower k whose EPOCH entry holds the reference block is accumulated at once:
the scaled sums are added with saturation, LIMIT and OVERRANGE stick, and the count rises. R29, R31, R32: the reference
block's own SAMPLE is stored, paired with itself in an EPOCH entry, and combined with each held tower's block. R25: an
entry in which every installed tower has been combined is retired; the others keep their places. Stated where no window
closes, and for a reference tower that its entry neither holds nor has combined, as every step keeps it
(EveryStepKeepsTheBoundedLists). -/
def Obligations.CombinedSampleIsAccumulated : Prop :=
  ∀ (src : Byte) (payload : List Byte) (k : Tower) (e : Entry) (s : State),
    s.part.taking → payload.length = 131 → s.part.bank.towerOfNode src = some k →
    s.part.seq.mode = .stopped → s.part.store.entries.Pairwise (fun y z => y.index ≠ z.index) →
    e ∈ s.part.store.entries → e.index = payload.getD 0 0 ++ payload.getD 1 0 →
    let x := blockOf payload
    let q := fun z : Int => z.fdiv (2 ^ s.part.corr.config.s)
    let sat := fun z : Int => max (-549755813888) (min z 549755813887)
    let lost := fun z : Int => decide (z < -549755813888 ∨ 549755813887 < z)
    let added := fun (a : Accum) (re im p : Int) (o : Bool) =>
      ({ re := sat (a.re + re), im := sat (a.im + im), p := sat (a.p + p), count := a.count + 1
         limit := a.limit || lost (a.re + re) || lost (a.im + im) || lost (a.p + p)
         overrange := a.overrange || o } : Accum)
    let crossed := fun (a : Accum) (r y : Block) =>
      added a (q (crossRe r y)) (q (crossIm r y)) (q r.power) (r.overrange || y.overrange)
    let short := fun j : Tower => s.part.corr.accums[j].count + 1 < 2 ^ s.part.corr.config.w
    let left := fun (t : State) (e' : Entry) =>
      t.part.table.readings = s.part.table.readings ∧ t.part.round = s.part.round ∧
      t.part.timer = s.part.timer ∧ t.part.tables = s.part.tables ∧
      (let done := ∀ j : Tower, s.part.bank.installed j = true → j = e.refTower ∨ j ∈ e'.combined
       (done → t.part.store.entries = s.part.store.entries.filter fun y => decide (y ≠ e)) ∧
       (¬done → t.part.store.entries = s.part.store.entries.map fun y => if y = e then e' else y))
    (∀ r, e.refBlock = some r → e.epoch = true → k ≠ e.refTower → (∀ y, (k, y) ∉ e.held) → k ∉ e.combined → short k →
      ∃ t, exec (.sampleArrival src payload) s = .next t ∧
        t.part.corr = { s.part.corr with
          accums := s.part.corr.accums.set k.val (crossed s.part.corr.accums[k] r x) } ∧
        left t { e with combined := addTower e.combined k }) ∧
    (e.refBlock = none → k = e.refTower → e.held.Pairwise (fun y z => y.1 ≠ z.1) → (∀ y, (k, y) ∉ e.held) →
      k ∉ e.combined → (∀ j, j = k ∨ (∃ y, (j, y) ∈ e.held) → short j) →
      ∃ t, exec (.sampleArrival src payload) s = .next t ∧
        t.part.corr.config = s.part.corr.config ∧
        (e.epoch = false → t.part.corr.accums = s.part.corr.accums) ∧
        (e.epoch = true →
          t.part.corr.accums[k] = added s.part.corr.accums[k] 0 0 (q x.power) x.overrange ∧
          (∀ j y, (j, y) ∈ e.held → t.part.corr.accums[j] = crossed s.part.corr.accums[j] x y) ∧
          ∀ j : Tower, j ≠ k → (∀ y, (j, y) ∉ e.held) → t.part.corr.accums[j] = s.part.corr.accums[j]) ∧
        left t { e with
          refBlock := some x, held := [], combined := (e.held.map Prod.fst).foldl addTower e.combined })

/-- R44, R46, R49: the same addition where it brings the count to W closes the window: the reading is computed, the
closes count, the age is 0 and the set is cleared. R45, R47, R48: the ratio and the phase are those of the closed sums,
held as they were by a window without signal. R50: the reference tower's window, which the reference block's own SAMPLE
closes, gives the ratio 10000 and the phase 0 in every state. Stated in STOPPED, where nothing restarts the monitor, and for a
reference tower that its entry neither holds nor has combined, as every step keeps it (EveryStepKeepsTheBoundedLists). -/
def Obligations.WindowCloseWritesTheReading : Prop :=
  ∀ (src : Byte) (payload : List Byte) (k : Tower) (e : Entry) (s : State),
    s.part.taking → payload.length = 131 → s.part.bank.towerOfNode src = some k →
    s.part.seq.mode = .stopped → s.part.store.entries.Pairwise (fun y z => y.index ≠ z.index) →
    e ∈ s.part.store.entries → e.index = payload.getD 0 0 ++ payload.getD 1 0 → e.epoch = true →
    let old := s.part.table.readings[k]
    let floor := (s.part.bank.signalFloor : Int)
    let closed := fun (t : State) (a : Accum) =>
      t.part.corr.accums[k] = Accum.clear ∧
      t.part.table.readings[k].closes = old.closes + 1 ∧ t.part.table.readings[k].age = 0 ∧
      t.part.table.readings[k].late = old.late ∧
      t.part.table.readings[k].state =
        (if a.p < floor then .noSignal else if a.limit = true ∨ a.overrange = true then .clipped else .valid) ∧
      (a.limit = true ∨ a.overrange = true → floor ≤ a.p → t.part.table.anyClipped = true)
    (∀ r, e.refBlock = some r → k ≠ e.refTower → k ≠ s.part.corr.config.refTower → (∀ y, (k, y) ∉ e.held) →
      k ∉ e.combined →
      let a := s.part.corr.accums[k].addCross s.part.corr.config.s r (blockOf payload)
      a.count = 2 ^ s.part.corr.config.w →
      ∃ t, exec (.sampleArrival src payload) s = .next t ∧ closed t a ∧
        (a.p < floor →
          t.part.table.readings[k].ratio = old.ratio ∧ t.part.table.readings[k].phase = old.phase) ∧
        (floor ≤ a.p →
          t.part.table.readings[k].ratio = min ((10000 * magnitude a.re a.im + a.p.toNat / 2) / a.p.toNat) 65535 ∧
          t.part.table.readings[k].phase = phaseOf a.re a.im)) ∧
    (e.refBlock = none → k = e.refTower → k = s.part.corr.config.refTower → (∀ y, (k, y) ∉ e.held) →
      k ∉ e.combined →
      let a := s.part.corr.accums[k].addSelf s.part.corr.config.s (blockOf payload)
      a.count = 2 ^ s.part.corr.config.w →
      ∃ t, exec (.sampleArrival src payload) s = .next t ∧ closed t a ∧
        t.part.table.readings[k].ratio = 10000 ∧ t.part.table.readings[k].phase = 0)

/-- R45: the magnitude is the integer square root of the exact sum of squares, 0 for two sums of 0 and below 2^40 for
sums within their range. R47: the ratio is floor((10000 · mag + floor(P/2)) / P) clamped to 65535, which is the integer
nearest to 10000 · mag / P, an exact half rounded up, unless it is clamped. -/
def Obligations.MagnitudeAndRatioAreExact : Prop :=
  (∀ re im : Int,
    (magnitude re im : Int) * magnitude re im ≤ re * re + im * im ∧
      re * re + im * im < ((magnitude re im : Int) + 1) * (magnitude re im + 1) ∧
      (magnitude re im = 0 ↔ re = 0 ∧ im = 0) ∧
      (-549755813888 ≤ re → re ≤ 549755813887 → -549755813888 ≤ im → im ≤ 549755813887 →
        magnitude re im < 1099511627776)) ∧
  (∀ mag p : Nat, 0 < p →
    ratioOf mag p = min ((10000 * mag + p / 2) / p) 65535 ∧
    (ratioOf mag p < 65535 →
      2 * (ratioOf mag p * p) ≤ 2 * (10000 * mag) + p ∧ 2 * (10000 * mag) < 2 * (ratioOf mag p * p) + p) ∧
    (ratioOf mag p = 65535 → 2 * (65535 * p) ≤ 2 * (10000 * mag) + p))

/-- R48: the phase lies within -18000..17999 and is the angle of the point (Re, Im) in centidegrees rounded to the
nearest integer, up to whole turns; with both sums 0 it is 0. -/
def Obligations.PhaseIsTheNearestCentidegree : Prop :=
  ∀ re im : Int,
    -18000 ≤ phaseOf re im ∧ phaseOf re im ≤ 17999 ∧
    (re = 0 ∧ im = 0 → phaseOf re im = 0) ∧
    (re ≠ 0 ∨ im ≠ 0 →
      ∃ n : Int,
        |18000 / Real.pi * Complex.arg ⟨(re : ℝ), (im : ℝ)⟩ - (phaseOf re im : ℝ) - 36000 * (n : ℝ)| ≤ 1 / 2)

/-! ### Tests and rounds -/

/-- R57, R58, R59, R60: the tolerance test of each kind of tower. -/
def Obligations.ToleranceTestsAreExact : Prop :=
  ∀ (r : Reading) (x : TowerTarget),
    (r.passes x true = true ↔ r.state = .valid) ∧
    (x.role = .dark → (r.passes x false = true ↔ r.state = .valid ∧ r.ratio ≤ x.ratio)) ∧
    (x.role = .lit → -18000 ≤ r.phase → r.phase ≤ 17999 → -18000 ≤ x.phase → x.phase ≤ 17999 →
      (r.passes x false = true ↔
        r.state = .valid ∧ ((r.ratio : Int) - x.ratio).natAbs * 1000 ≤ x.ratioTol * x.ratio ∧
        ∃ d n : Int, d = r.phase - x.phase + 36000 * n ∧ -18000 ≤ d ∧ d ≤ 17999 ∧ d.natAbs ≤ x.phaseTol))

/-- R66: what the tests of a completion leave: NONE without targets or in HALTED, otherwise IN_TOL exactly where every
installed tower passes; the failing set and the in-tolerance flags of the installed towers; the counter one higher. -/
def Obligations.RoundCompletionGivesTheVerdict : Prop :=
  ∀ (s : Part) (k : Tower), s.bank.installed k = true →
    s.judge.round.counter = s.round.counter + 1 ∧
    (s.corr.config.targets = none ∨ s.seq.mode = .halted →
      s.judge.round.last = .noVerdict ∧ s.judge.round.failing = [] ∧
      s.judge.table.readings[k].inTol = false) ∧
    (∀ ts, s.corr.config.targets = some ts → s.seq.mode ≠ .halted →
      let passes := fun j : Tower => s.table.readings[j].passes ts[j] (decide (j = s.corr.config.refTower))
      (s.judge.round.last = .inTol ↔ ∀ j : Tower, s.bank.installed j = true → passes j = true) ∧
      (s.judge.round.last = .outTol ↔ ∃ j : Tower, s.bank.installed j = true ∧ passes j = false) ∧
      (k ∈ s.judge.round.failing ↔ passes k = false) ∧
      s.judge.table.readings[k].inTol = passes k)

/-- R62, R65, R66: the window close of a tower that covers the last installed tower, with no actuator command in
flight, completes the round: the counter, the verdict of the readings as the event leaves them, the failing set, and a
new round. R67, R188: the MONITOR frame of the round waits for node 30, with the state, phase and level before the
verdict is acted on. R68: a verdict in STOPPED is not acted on. R69, R70, R95: in IN_PATTERN with TX_TRIP released
OUT_TOL raises the out-of-tolerance run, sets the restore count to 0, and at the grace raises OUT_OF_TOLERANCE with
class C, which leaves the array DEGRADED; IN_TOL sets the run to 0 and ends the record. R96: an IN_TOL in DEGRADED with
no class C record ACTIVE counts toward the verify rounds, at which NORMAL is restored with a ramp to the operating
level. R133: under a CONTINUOUS pattern an IN_TOL refills every trim count. R84, R85: in TRIMMING and VERIFYING the
verdict moves the change on to VERIFYING and RAMP_FINAL, or back. R154, R70: a run raises once, a promotion that raises
the grace or not; the flag that says whether it has is the model's own, log entry 50. A restore count above verify
rounds restores NORMAL by the model's choice, log entry 51. Stated of a tower that was not STALE and has no entry of
the trim pattern, with no contactor command in flight, and of a final ramp that is not over at its order. -/
def Obligations.RoundCompletionActsOnTheVerdict : Prop :=
  ∀ (src : Byte) (payload : List Byte) (k : Tower) (e : Entry) (r : Block) (ts : Vector TowerTarget 12) (s : State),
    s.part.taking → payload.length = 131 → s.part.bank.towerOfNode src = some k →
    s.part.store.entries.Pairwise (fun y z => y.index ≠ z.index) → e ∈ s.part.store.entries →
    e.index = payload.getD 0 0 ++ payload.getD 1 0 → e.refBlock = some r → e.epoch = true → k ≠ e.refTower →
    (∀ y, (k, y) ∉ e.held) → k ∉ e.combined → s.part.corr.accums[k].count + 1 = 2 ^ s.part.corr.config.w →
    s.part.corr.config.targets = some ts → s.part.table.readings[k].state ≠ .stale →
    (∀ p, s.part.trimPattern = some p → ∀ x ∈ s.part.bank.actuatorEntries p, x.tower ≠ k) →
    (∀ x : Elem, s.part.elems[x].command = none) →
    (∀ j : Tower, s.part.bank.installed j = true → j = k ∨ j ∈ s.part.round.coverage) →
    (s.part.seq.mode = .stopped ∨ s.part.seq.mode = .inPattern ∨
      ∃ c p, s.part.seq.mode = .changing c ∧ (c.phase = .trimming ∨ c.phase = .verifying) ∧ c.toPat = some p ∧
        s.part.ramp.level ≠ min (s.part.bank.operatingLevel p) (s.part.tables.mem.licensedLevel p)) →
    ∃ t, exec (.sampleArrival src payload) s = .next t ∧ t.pending = s.pending ∧
      let passes := fun j : Tower => t.part.table.readings[j].passes ts[j] (decide (j = s.part.corr.config.refTower))
      let inTol := ∀ j : Tower, s.part.bank.installed j = true → passes j = true
      let kept := s.part.seq.active = t.part.seq.active ∧ s.part.seq.slot = t.part.seq.slot
      let classC := fun l : List FaultRecord => ∃ x ∈ l, x.active = true ∧ x.cls = .c
      t.part.round.counter = s.part.round.counter + 1 ∧ t.part.round.coverage = [] ∧
      (inTol → t.part.round.last = .inTol) ∧ (¬inTol → t.part.round.last = .outTol) ∧
      (∀ j : Tower, j ∈ t.part.round.failing ↔ s.part.bank.installed j = true ∧ passes j = false) ∧
      (∀ j : Tower, s.part.bank.installed j = true → t.part.table.readings[j].inTol = passes j) ∧
      (s.part.station.link.up = true → s.part.stationBusy →
        ∃ f, t.part.station.monitor = some f ∧ f.dst = 30 ∧ f.src = 0 ∧ f.kind = 10 ∧
          let b := fun i => (f.payload.getD i 0).toNat
          256 * b 0 + b 1 = (s.part.round.counter + 1).toNat ∧
          (b 2, b 3) = (match s.part.seq.mode, s.part.seq.sub with
            | .stopped, _ => (0, 0)
            | .changing c, _ => (1, if c.phase = .trimming then 6 else 7)
            | .inPattern, .normal => (2, 9)
            | .inPattern, .degraded => (2, 10)
            | .halted, _ => (3, 0)) ∧
          b 4 = (match s.part.corr.config.source with
            | some p => p.val
            | none => 255) ∧
          (inTol → b 5 = 1) ∧ (¬inTol → b 5 = 2) ∧
          (∀ j : Tower, (256 * b 6 + b 7).testBit j.val = decide (j ∈ t.part.round.failing)) ∧
          256 * b 8 + b 9 = s.part.ramp.level % 65536 ∧
          (let reports := (List.range 16).filterMap fun i =>
            let x := t.part.table.readings[s.part.bank.reportTower i]
            match s.part.bank.reportQuantity i with
            | 1 => some [BitVec.ofNat 8 (x.ratio / 256), BitVec.ofNat 8 x.ratio]
            | 2 =>
              some [BitVec.ofNat 8 ((x.phase % 65536).toNat / 256), BitVec.ofNat 8 (x.phase % 65536).toNat]
            | 3 =>
              some [match x.state with
                | .pending => 0
                | .valid => 1
                | .stale => 2
                | .noSignal => 3
                | .clipped => 4, if x.inTol then 1 else 0]
            | _ => none
           b 10 = reports.length ∧ f.payload.drop 11 = reports.flatten)) ∧
      (s.part.seq.mode = .stopped → t.part.seq = s.part.seq) ∧
      (∀ p, s.part.seq.mode = .inPattern → s.part.seq.active = some p → s.part.lines.txTrip = false →
        t.part.seq.mode = .inPattern ∧ kept ∧
        (¬inTol →
          t.part.seq.ootRun = upTo 255 s.part.seq.ootRun ∧ t.part.seq.restore = 0 ∧
          (∀ x : Elem, t.part.elems[x].trimCount = s.part.elems[x].trimCount) ∧
          (let grace := s.part.seq.ootRaised = false ∧ s.part.seq.ootRun < 255 ∧
             s.part.seq.ootRun + 1 = s.part.bank.ootGrace p
           (t.part.seq.ootRaised = true ↔ s.part.seq.ootRaised = true ∨ grace) ∧
           (¬grace → t.part.seq.sub = s.part.seq.sub ∧ t.part.ramp = s.part.ramp) ∧
           (grace → t.part.seq.sub = .degraded ∧
            (s.part.seq.sub = .normal →
              t.part.ramp.target = min (s.part.bank.degradedLevel p) (s.part.tables.mem.licensedLevel p)) ∧
            (s.part.faults.records.length ≤ 12 →
              (∀ x ∈ s.part.faults.records, ¬(x.active = true ∧ x.kind = .outOfTolerance ∧ x.object = .nothing)) →
              ∃ x ∈ t.part.faults.records, x.kind = .outOfTolerance ∧ x.cls = .c ∧ x.active = true)))) ∧
        (inTol →
          t.part.seq.ootRun = 0 ∧ t.part.seq.ootRaised = false ∧
          (∀ x ∈ t.part.faults.records, ¬(x.active = true ∧ x.kind = .outOfTolerance ∧ x.object = .nothing)) ∧
          (∀ x : Elem, t.part.elems[x].trimCount =
            if s.part.bank.continuous p = true then 0 else s.part.elems[x].trimCount) ∧
          (s.part.seq.sub = .normal → t.part.seq.sub = .normal ∧ t.part.ramp = s.part.ramp) ∧
          (s.part.seq.sub = .degraded → classC t.part.faults.records →
            t.part.seq.sub = .degraded ∧ t.part.ramp = s.part.ramp) ∧
          (s.part.seq.sub = .degraded → ¬classC s.part.faults.records →
            t.part.seq.restore = upTo 15 s.part.seq.restore ∧
            (t.part.seq.restore < s.part.bank.verifyRounds p →
              t.part.seq.sub = .degraded ∧ t.part.ramp = s.part.ramp) ∧
            (s.part.bank.verifyRounds p ≤ t.part.seq.restore →
              t.part.seq.sub = .normal ∧
              t.part.ramp.target =
                min (s.part.bank.operatingLevel p) (s.part.tables.mem.licensedLevel p))))) ∧
      (∀ c p, s.part.seq.mode = .changing c → c.toPat = some p →
        let n := if c.phase = .trimming then 1 else c.verify + 1
        kept ∧
        (¬inTol →
          t.part.seq.mode = .changing { c with
            phase := .trimming, verify := if c.phase = .trimming then c.verify else 0 } ∧
          t.part.ramp = s.part.ramp) ∧
        (inTol → n < s.part.bank.verifyRounds p →
          t.part.seq.mode = .changing { c with phase := .verifying, verify := n } ∧ t.part.ramp = s.part.ramp) ∧
        (inTol → s.part.bank.verifyRounds p ≤ n →
          t.part.seq.mode =
            .changing { c with phase := .rampFinal, verify := n, settleDeadline := none } ∧
          t.part.ramp.inProgress = true ∧
          t.part.ramp.target = min (s.part.bank.operatingLevel p) (s.part.tables.mem.licensedLevel p)))

/-! ### Requests and the change sequencer -/

/-- R74, R75, R89, R175, R190: the refusals of CHANGE and STOP, each answered with the tables-adopted flag clear and
with no other effect: REFUSED_LOCAL with LOCAL asserted, REFUSED_HALTED in HALTED, and, in STOPPED or IN_PATTERN where
no bank is adopted (R9: the staged bank is not READY, or is withheld in IN_PATTERN), NOT_DEFINED for a pattern outside
0..3 or not defined and UNREACHABLE for one whose contactor set cannot be reached; in CHANGING NOT_DEFINED for a pattern
outside 0..3. R9, R10, R34: where the READY bank is adopted the promotion stands, the same refusals are judged by it and
carry the flag set, and the rest of the part is as it was. Stated of a promotion that loses no QUIET under a contactor
command in flight (R111). -/
def Obligations.RefusedRequestsHaveNoEffect : Prop :=
  ∀ (src tag n : Byte) (s : State), s.part.taking →
    let change := fun r : Byte =>
      exec (.change src tag n) s = .next { s with part := s.part.answered (mgmtReply src tag 4 r [0]) }
    let stop := fun r : Byte =>
      exec (.stop src tag) s = .next { s with part := s.part.answered (mgmtReply src tag 5 r [0]) }
    let promoted := fun r : Byte =>
      ∃ t, exec (.change src tag n) s = .next t ∧ t.pending = s.pending ∧
        Part.Promoted s.part t.part ∧ Part.MonitorPromoted s.part t.part ∧
        (∀ e : Elem, t.part.elems[e] =
          { s.part.withStaged.elems[e] with settleCount := t.part.elems[e].settleCount }) ∧
        (s.part.keepsTowers → t.part.elems = s.part.withStaged.elems) ∧
        t.part.seq = { s.part.seq with restore := t.part.seq.restore } ∧ t.part.walk = s.part.walk ∧
        t.part.ramp = s.part.ramp ∧ t.part.timer = s.part.timer ∧ t.part.uptime = s.part.uptime ∧
        t.part.lines = s.part.lines ∧ t.part.clock = s.part.clock ∧
        t.part.station.replies = s.part.station.replies ++ [mgmtReply src tag 4 r [1]]
    (s.part.lines.localOn = true → change 7 ∧ stop 7) ∧
    (s.part.lines.localOn = false →
      (s.part.seq.mode = .halted → change 8 ∧ stop 8) ∧
      (s.part.seq.mode = .stopped ∨ s.part.seq.mode = .inPattern →
        (¬s.part.adopts →
          (3 < n.toNat → change 9) ∧
          ∀ p : Pat, n.toNat = p.val →
            (s.part.bank.patDefined p = false → change 9) ∧
            (s.part.bank.patDefined p = true → s.part.reachable p = false → change 10)) ∧
        (s.part.adopts → s.part.tables.mem.wf = true →
          s.part.keepsTowers ∨ (∀ e : Elem, s.part.elems[e].contactInFlight = false) →
          s.part.stationBusy → s.part.station.replies.length < 8 →
          (3 < n.toNat → promoted 9) ∧
          ∀ p : Pat, n.toNat = p.val →
            ((stagedBank s.part.tables.mem).patDefined p = false → promoted 9) ∧
            ((stagedBank s.part.tables.mem).patDefined p = true → s.part.withStaged.reachable p = false →
              promoted 10))) ∧
      (∀ c, s.part.seq.mode = .changing c → 3 < n.toNat → change 9))

/-- R77, R89, R175: a CHANGE accepted in STOPPED or IN_PATTERN with TX_TRIP released, where no bank is adopted (R9),
starts a change: the record, the refilled trim budgets, the answer OK; the active pattern, the slot, the tables, the
timer, the uptime, the lines, the clock and the Scheduler are unchanged. R9, R10, R34, R76: where the READY bank is
adopted, the checks and the change are those of the promoted bank, the record and the reply carry the tables-adopted
flag, the promotion stands, and of a change that needs moves the monitor is as the promotion leaves it. Stated of a
promotion that loses no QUIET under a contactor command in flight (R111). -/
def Obligations.AcceptedChangeStarts : Prop :=
  ∀ (src tag n : Byte) (p : Pat) (s : State),
    s.part.taking → s.part.lines.localOn = false → s.part.lines.txTrip = false → n.toNat = p.val →
    s.part.seq.mode = .stopped ∨ s.part.seq.mode = .inPattern →
    s.part.stationBusy → s.part.fieldBusy → s.part.station.replies.length < 8 →
    (¬s.part.adopts → s.part.bank.patDefined p = true → s.part.reachable p = true →
      ∃ t, exec (.change src tag n) s = .next t ∧ t.pending = s.pending ∧
        Part.Started s.part t.part .mgmt (some p) false ∧ t.part.sched = s.part.sched ∧
        t.part.station.replies = s.part.station.replies ++ [mgmtReply src tag 4 0 [0]]) ∧
    (s.part.adopts → s.part.tables.mem.wf = true →
      s.part.keepsTowers ∨ (∀ e : Elem, s.part.elems[e].contactInFlight = false) →
      (stagedBank s.part.tables.mem).patDefined p = true → s.part.withStaged.reachable p = true →
      ∃ t, exec (.change src tag n) s = .next t ∧ t.pending = s.pending ∧
        Part.Started s.part.withStaged t.part .mgmt (some p) true ∧ Part.Promoted s.part t.part ∧
        (s.part.withStaged.movesNeeded (some p) = true → Part.MonitorPromoted s.part t.part) ∧
        t.part.station.replies = s.part.station.replies ++ [mgmtReply src tag 4 0 [1]])

/-- R89: a CHANGE or STOP taken while CHANGING with LOCAL released is answered PENDING and placed in the slot. It
displaces an occupant of any source, with REQUEST_OVERRUN recorded for the occupant's source and ANY_OVERRUN set. -/
def Obligations.RequestsWaitInTheSlot : Prop :=
  ∀ (src tag n : Byte) (p : Pat) (c : Change) (s : State),
    s.part.taking → s.part.lines.localOn = false → s.part.seq.mode = .changing c → n.toNat = p.val →
    (s.part.seq.slot = none →
      exec (.change src tag n) s = .next
        { s with
          part := ({ s.part with
            seq := { s.part.seq with slot := some { source := .mgmt, target := some p } } } : Part).answered
              (mgmtReply src tag 4 1 [0]) } ∧
      exec (.stop src tag) s = .next
        { s with
          part := ({ s.part with
            seq := { s.part.seq with slot := some { source := .mgmt, target := none } } } : Part).answered
              (mgmtReply src tag 5 1 [0]) }) ∧
    (∀ o, s.part.seq.slot = some o → s.part.room .requestOverrun (.request o.source) →
      let displaced := fun x : Option Pat =>
        ({ s.part with
          seq := { s.part.seq with slot := some { source := .mgmt, target := x }, anyOverrun := true } } :
          Part).recorded .requestOverrun (.request o.source) .d
      exec (.change src tag n) s = .next
        { s with part := (displaced (some p)).answered (mgmtReply src tag 4 1 [0]) } ∧
      exec (.stop src tag) s = .next
        { s with part := (displaced none).answered (mgmtReply src tag 5 1 [0]) })

/-- R88, R145, R155: a STOP taken in STOPPED with the level 0 and the staged bank not READY ends in STOPPED at once:
INHIBIT is asserted, POWER 0 handed over, the monitor restarted with the idle parameters, every ACTIVE event record of
classes A to C ended, and of each element the trim and settle counts alone are written, both 0. Stated with no tower
STALE, so that no TOWER_STALE record ends, and both ports transmitting. R77, R79, R139, R138: a STOP taken in
IN_PATTERN with a level above 0 and within the licence ramps the carrier down from where it stands: RAMP_DOWN toward 0,
its deadline and first send time by the ramp parameters of the site record. -/
def Obligations.StopTakesTheCarrierDown : Prop :=
  (∀ (src tag : Byte) (s : State),
    s.part.taking → s.part.lines.localOn = false → s.part.seq.mode = .stopped → s.part.ramp.level = 0 →
    s.part.seq.slot = none → s.part.tables.staged ≠ .ready →
    (∀ k : Tower, s.part.table.readings[k].state ≠ .stale) →
    s.part.stationBusy → s.part.station.replies.length < 8 →
    ∃ t, exec (.stop src tag) s = .next t ∧ t.pending = s.pending ∧
      t.part = { s.part with
        raised := []
        pins := t.part.pins
        store := t.part.store
        corr := t.part.corr
        table := t.part.table
        round := { s.part.round with coverage := [] }
        seq := { s.part.seq with mode := .stopped, active := none }
        elems := t.part.elems
        trim := { s.part.trim with exhausted := [], allowance := true }
        ramp :=
          { s.part.ramp with
            target := 0, inProgress := false, deadline := none, nextSend := none, inhibit := true }
        faults := { s.part.faults with records := eventsEnded s.part.faults.records }
        station :=
          { s.part.station with
            link := Link.heard s.part.uptime
            power := some 0
            replies := s.part.station.replies ++ [mgmtReply src tag 5 0 [0]] } } ∧
      t.part.corr.config = s.part.bank.idleConfig ∧ (∀ k : Tower, t.part.corr.accums[k] = Accum.clear) ∧
      t.part.store.epochStart = s.part.timer.index + 1 ∧ (∀ e ∈ t.part.store.entries, e.epoch = false) ∧
      (∀ e : Elem, t.part.elems[e] = { s.part.elems[e] with trimCount := 0, settleCount := 0 }) ∧
      (∀ k : Tower, t.part.table.readings[k].state = .pending ∧ t.part.table.readings[k].age = 0 ∧
        t.part.table.readings[k].closes = 0) ∧
      t.part.PinsSound) ∧
  (∀ (src tag : Byte) (p : Pat) (s : State),
    s.part.taking → s.part.lines.localOn = false → s.part.seq.mode = .inPattern →
    s.part.seq.active = some p → s.part.tables.staged ≠ .ready → 0 < s.part.ramp.level →
    s.part.ramp.level ≤ s.part.tables.mem.licensedLevel p → 0 < s.part.bank.rampStep →
    ∃ t c, exec (.stop src tag) s = .next t ∧ t.part.seq.mode = .changing c ∧
      c.phase = .rampDown ∧ c.toPat = none ∧ c.fromPat = some p ∧ c.source = .mgmt ∧ c.kind = .normal ∧
      t.part.seq.active = some p ∧ t.part.seq.ootRun = 0 ∧ t.part.seq.ootRaised = false ∧
      t.part.ramp.level = s.part.ramp.level ∧ t.part.ramp.target = 0 ∧ t.part.ramp.inProgress = true ∧
      t.part.ramp.inhibit = s.part.ramp.inhibit ∧
      t.part.ramp.nextSend = some (s.part.uptime + BitVec.ofNat 32 s.part.bank.rampInterval) ∧
      t.part.ramp.deadline = some (s.part.uptime + BitVec.ofNat 32
        (((s.part.ramp.level + s.part.bank.rampStep - 1) / s.part.bank.rampStep + 1) * s.part.bank.rampInterval +
          s.part.bank.rampGrace)) ∧
      t.part.pins.inPattern = false ∧ t.part.timer = s.part.timer ∧
      t.part.tables = s.part.tables ∧ t.part.uptime = s.part.uptime)

/-- R91, R92: ABORT is answered NOTHING outside CHANGING and REVERTING in a reversion, without effect; a change of
attribute NORMAL or RESEAT from a defined pattern is turned back with cause ABORT, ABORTED recorded and the answer OK.
R158, R92, R80, R86, R143: the expiry of the phase deadline, of the settle deadline, or of the ramp deadline with the
ramp in progress, during a change of attribute NORMAL or RESEAT from a defined pattern, records MUTE_TIMEOUT,
SETTLE_TIMEOUT or RAMP_TIMEOUT with class B and turns the change back with that cause. R159: during a reversion each of
them is a second failure. It halts the part where the reversion's to-pattern is NONE or the phase comes before
RAMP_TO_TRIM, the record keeping class B; from RAMP_TO_TRIM on it leaves the array IN_PATTERN DEGRADED under the
to-pattern, on the way to the degraded level, with REVERT_INCOMPLETE recorded. Stated there with no request waiting. -/
def Obligations.AbortAndDeadlinesTurnTheChangeBack : Prop :=
  (∀ (src tag : Byte) (s : State), s.part.taking →
    ((∀ c, s.part.seq.mode ≠ .changing c) →
      exec (.abort src tag) s = .next { s with part := s.part.answered (mgmtReply src tag 6 12 []) }) ∧
    (∀ c, s.part.seq.mode = .changing c → c.kind = .revert →
      exec (.abort src tag) s = .next { s with part := s.part.answered (mgmtReply src tag 6 11 []) }) ∧
    (∀ c q, s.part.seq.mode = .changing c → c.kind ≠ .revert → c.fromPat = some q →
      s.part.bank.patDefined q = true → s.part.lines.txTrip = false → s.part.seq.slot = none →
      s.part.room .aborted .nothing → s.part.stationBusy → s.part.fieldBusy → s.part.station.replies.length < 8 →
      ∃ t, exec (.abort src tag) s = .next t ∧ t.pending = s.pending ∧
        Part.Reverted s.part t.part c .abort ∧
        (∃ r ∈ t.part.faults.records, r.kind = .aborted ∧ r.cls = .d ∧ r.active = false ∧ r.object = .nothing ∧
          r.first = s.part.uptime) ∧
        t.part.uptime = s.part.uptime ∧
        t.part.station.replies = s.part.station.replies ++ [mgmtReply src tag 6 0 []])) ∧
  (∀ (c : Change) (q : Pat) (s : State), s.part.taking →
    s.part.seq.mode = .changing c → c.kind ≠ .revert → c.fromPat = some q →
    s.part.bank.patDefined q = true → s.part.lines.txTrip = false → s.part.fieldBusy →
    let turned := fun (i : Instr) (k : FaultKind) =>
      s.part.room k .nothing →
      ∃ t, exec i s = .next t ∧ t.pending = s.pending ∧ Part.Reverted s.part t.part c (.fault k) ∧
        ∃ r ∈ t.part.faults.records, r.kind = k ∧ r.cls = .b ∧ r.active = true ∧ r.object = .nothing ∧
          r.situation = .changing c.phase ∧ r.pats = some (c.fromPat, c.toPat)
    (c.phaseDeadline ≠ none → turned .phaseDeadline .muteTimeout) ∧
    (c.settleDeadline ≠ none → turned .settleDeadline .settleTimeout) ∧
    (s.part.ramp.deadline ≠ none → s.part.ramp.inProgress = true → turned .rampDeadline .rampTimeout)) ∧
  (∀ (c : Change) (s : State), s.part.taking → s.part.seq.mode = .changing c → c.kind = .revert →
    let early := c.phase = .rampDown ∨ c.phase = .muting ∨ c.phase = .switching ∨ c.phase = .presetting
    let failed := fun (i : Instr) (k : FaultKind) =>
      s.part.room k .nothing →
      ∃ t, exec i s = .next t ∧ t.pending = s.pending ∧
        (∃ r ∈ t.part.faults.records, r.kind = k ∧ r.cls = .b ∧ r.active = true ∧ r.object = .nothing ∧
          r.situation = .changing c.phase ∧ r.pats = some (c.fromPat, c.toPat)) ∧
        t.part.pins = { fault := true, inPattern := false } ∧ t.part.seq.slot = none ∧
        t.part.tables = s.part.tables ∧ t.part.timer = s.part.timer ∧
        (c.toPat = none ∨ early →
          t.part.seq.mode = .halted ∧ t.part.seq.active = none ∧ t.part.ramp.inhibit = true ∧
          t.part.ramp.level = 0 ∧ t.part.ramp.target = 0 ∧ t.part.ramp.inProgress = false) ∧
        (∀ p, c.toPat = some p → ¬early → s.part.seq.slot = none → s.part.faults.records.length ≤ 12 →
          (∀ r ∈ s.part.faults.records, ¬(r.active = true ∧ r.kind = .revertIncomplete ∧ r.object = .nothing)) →
          t.part.seq =
            { s.part.seq with
              mode := .inPattern, sub := .degraded, active := some p, ootRun := 0, ootRaised := false, restore := 0 } ∧
          t.part.ramp.target = min (s.part.bank.degradedLevel p) (s.part.tables.mem.licensedLevel p) ∧
          t.part.ramp.level = s.part.ramp.level ∧ t.part.ramp.inhibit = s.part.ramp.inhibit ∧
          ∃ r ∈ t.part.faults.records, r.kind = .revertIncomplete ∧ r.cls = .c ∧ r.active = true ∧
            r.object = .nothing)
    (c.phaseDeadline ≠ none → failed .phaseDeadline .muteTimeout) ∧
    (c.settleDeadline ≠ none → failed .settleDeadline .settleTimeout) ∧
    (s.part.ramp.deadline ≠ none → s.part.ramp.inProgress = true → failed .rampDeadline .rampTimeout))

/-- R95, R143, R139, R160: the ramp deadline of a ramp in progress in IN_PATTERN NORMAL raises RAMP_TIMEOUT with class
C: DEGRADED, the restore count 0, a ramp to the degraded level held to the licence, the lamp dark, FAULT asserted. The
uptime at the expiry is that of log entry 3. -/
def Obligations.RampTimeoutInPatternDegrades : Prop :=
  ∀ (p : Pat) (d : Uptime) (s : State), s.part.taking →
    s.part.seq.mode = .inPattern → s.part.seq.sub = .normal → s.part.seq.active = some p →
    s.part.ramp.deadline = some d → s.part.ramp.inProgress = true → s.part.room .rampTimeout .nothing →
    ∃ t, exec .rampDeadline s = .next t ∧ t.pending = s.pending ∧
      t.part.seq = { s.part.seq with sub := .degraded, restore := 0 } ∧
      t.part.ramp.target = min (s.part.bank.degradedLevel p) (s.part.tables.mem.licensedLevel p) ∧
      t.part.ramp.level = s.part.ramp.level ∧ t.part.ramp.inhibit = s.part.ramp.inhibit ∧
      t.part.pins = { fault := true, inPattern := false } ∧
      t.part = { s.part.atExpiry d with
        raised := []
        pins := t.part.pins
        seq := t.part.seq
        ramp := t.part.ramp
        faults := ((s.part.atExpiry d).recorded .rampTimeout .nothing .c).faults
        station := t.part.station }

/-- R94: RECOVER is answered NOT_HALTED without effect outside HALTED. In HALTED it is answered OK and leaves the
sequencer STOPPED with no active pattern, every ACTIVE event record of classes A to C ended and the monitor restarted
with the idle parameters; the rest stands. Stated with no tower STALE, so that no TOWER_STALE record ends. -/
def Obligations.RecoverLeavesHalted : Prop :=
  ∀ (src tag : Byte) (s : State), s.part.taking →
    (s.part.seq.mode ≠ .halted →
      exec (.recover src tag) s = .next { s with part := s.part.answered (mgmtReply src tag 7 13 []) }) ∧
    (s.part.seq.mode = .halted → (∀ k : Tower, s.part.table.readings[k].state ≠ .stale) →
      ∃ t, exec (.recover src tag) s = .next t ∧ t.pending = s.pending ∧
        t.part = ({ s.part with
          store := t.part.store
          corr := t.part.corr
          table := t.part.table
          round := { s.part.round with coverage := [] }
          seq := { s.part.seq with mode := .stopped, active := none }
          elems := t.part.elems
          faults := { s.part.faults with records := eventsEnded s.part.faults.records } } : Part).answered
            (mgmtReply src tag 7 0 []) ∧
        t.part.corr.config = s.part.bank.idleConfig ∧ t.part.store.epochStart = s.part.timer.index + 1 ∧
        (∀ k : Tower, t.part.table.readings[k].state = .pending) ∧
        (∀ e : Elem, t.part.elems[e] = { s.part.elems[e] with settleCount := 0 }))

/-- R93, R94, R178: HALTED is left by RECOVER, by RESET and by a cold reset alone. -/
def Obligations.OnlyRecoverAndResetsLeaveHalted : Prop :=
  ∀ (c : Instr) (s t : State), c.wf = true → exec c s = .next t → s.part.seq.mode = .halted →
    (match c with
      | .coldReset _ | .recover _ _ | .reset _ _ => True
      | _ => t.part.seq.mode = .halted)

/-! ### Management reads and faults -/

/-- R177, R190: READ_STATUS answers 54 bytes and clears ANY_CLIPPED and ANY_OVERRUN; some of the bytes it reports. The
counter of free values moves on (log entry 6). -/
def Obligations.ReadStatusReportsAndClearsTheSummary : Prop :=
  ∀ (src tag : Byte) (key : Bool) (s : State), s.part.taking →
    ∃ data : List Byte, data.length = 54 ∧
      data.getD 0 0 = (match s.part.seq.mode with
        | .stopped => 0
        | .changing _ => 1
        | .inPattern => 2
        | .halted => 3) ∧
      data.getD 16 0 = (match s.part.tables.staged with
        | .clean => 0
        | .editing => 1
        | .ready => 2) ∧
      data.getD 24 0 = (if s.part.table.quiet then 1 else 0) ∧ data.getD 27 0 = (if s.part.ramp.inhibit then 1 else 0) ∧
      256 * (data.getD 25 0).toNat + (data.getD 26 0).toNat = s.part.ramp.level % 65536 ∧
      data.getD 31 0 = (if s.part.field.link.up then 1 else 0) ∧ data.getD 32 0 = 1 ∧
      ((data.getD 53 0).getLsbD 0 = s.part.table.anyClipped ∧ (data.getD 53 0).getLsbD 1 = s.part.seq.anyOverrun) ∧
      ((data.getD 52 0).getLsbD 0 = s.part.lines.localOn ∧ (data.getD 52 0).getLsbD 1 = key ∧
        (data.getD 52 0).getLsbD 2 = s.part.lines.txTrip) ∧
      exec (.readStatus src tag key) s = .next
        { s with
          part := ({ s.part with
            lines := { s.part.lines with licenceKey := key }
            table := { s.part.table with anyClipped := false }
            seq := { s.part.seq with anyOverrun := false }
            free := s.part.free + 1 } : Part).answered (mgmtReply src tag 8 0 data) }

/-- R176, R190, R51: READ_READINGS answers 161 bytes, tower t's record at 5 + 13t, and changes no state. R176, R190:
READ_FAULTS answers the OVERFLOW flag, the record count and up to four records of 25 bytes from the start index in
creation order, and changes no state (the counter of free values apart, log entry 6). -/
def Obligations.ReadingAndFaultListsAreReported : Prop :=
  (∀ (src tag : Byte) (s : State), s.part.taking →
    ∃ data : List Byte, data.length = 161 ∧
      256 * (data.getD 0 0).toNat + (data.getD 1 0).toNat = s.part.round.counter.toNat ∧
      data.getD 2 0 = (match s.part.round.last with
        | .noVerdict => 0
        | .inTol => 1
        | .outTol => 2) ∧
      (∀ k : Tower,
        let r := s.part.table.readings[k]
        let b := 5 + 13 * k.val
        data.getD b 0 = (match r.state with
          | .pending => 0
          | .valid => 1
          | .stale => 2
          | .noSignal => 3
          | .clipped => 4) ∧
        256 * (data.getD (b + 1) 0).toNat + (data.getD (b + 2) 0).toNat = r.ratio % 65536 ∧
        (256 * (data.getD (b + 3) 0).toNat + (data.getD (b + 4) 0).toNat : Int) = r.phase % 65536 ∧
        256 * (data.getD (b + 5) 0).toNat + (data.getD (b + 6) 0).toNat = r.closes.toNat ∧
        data.getD (b + 11) 0 = (if r.inTol then 1 else 0) ∧
        (data.getD (b + 12) 0).toNat = s.part.table.quietRuns[k] % 256) ∧
      exec (.readReadings src tag) s = .next { s with part := s.part.answered (mgmtReply src tag 9 0 data) }) ∧
  (∀ (src tag start : Byte) (s : State), s.part.taking →
    ∃ data : List Byte,
      data.length = 2 + 25 * min 4 (s.part.faults.records.length - start.toNat) ∧
      data.getD 0 0 = (if s.part.faults.overflow then 1 else 0) ∧
      (data.getD 1 0).toNat = s.part.faults.records.length % 256 ∧
      (∀ (i : Nat) (r : FaultRecord), i < 4 → s.part.faults.records[start.toNat + i]? = some r →
        (data.getD (2 + 25 * i) 0).toNat = r.kind.code ∧ (data.getD (3 + 25 * i) 0).toNat = r.cls.code ∧
        (data.getD (25 + 25 * i) 0).toNat = r.repeats % 256 ∧
        data.getD (26 + 25 * i) 0 = (if r.active then 0 else 1)) ∧
      exec (.readFaults src tag start) s = .next
        { s with
          part := ({ s.part with free := s.part.free + 1 } : Part).answered (mgmtReply src tag 10 0 data) })

/-- R161: CLEAR_FAULTS removes every ENDED record, keeps the ACTIVE ones in their order, clears OVERFLOW and answers
the number removed; nothing else changes, and the FAULT line stands. That the number takes one byte of the reply is the
model's choice, log entry 54. -/
def Obligations.ClearFaultsRemovesTheEndedRecords : Prop :=
  ∀ (src tag : Byte) (s : State), s.part.taking →
    (exec (.clearFaults src tag) s = .next
      { s with
        part := ({ s.part with
          faults := { records := s.part.faults.records.filter (·.active), overflow := false } } : Part).answered
            (mgmtReply src tag 11 0
              [BitVec.ofNat 8 (s.part.faults.records.length - (s.part.faults.records.filter (·.active)).length)]) }) ∧
    ∀ t, exec (.clearFaults src tag) s = .next t → (t.part.pins.fault = s.part.faultLine)

/-- R175, R189, R190: a MGMT_REQ of an unknown code or a wrong length is answered UNKNOWN with its tag and code, one
shorter than two bytes with 0 and 0, and has no other effect. That the reply to a CHANGE or STOP of a wrong length has
no tables-adopted flag is the model's choice, log entry 48. -/
def Obligations.UnknownRequestIsAnsweredUnknown : Prop :=
  ∀ (src : Byte) (payload : List Byte) (s : State), s.part.taking → knownRequest payload = false →
    exec (.mgmtUnknown src payload) s = .next
      { s with
        part := s.part.answered
          (if 2 ≤ payload.length then mgmtReply src (payload.getD 0 0) (payload.getD 1 0) 15 []
          else mgmtReply src 0 0 15 []) }

/-! ### Elements, contactors and actuators -/

/-- R97, R98, R99, R103, R108, R167, R188: a STATE frame of one entry for a contactor that reports OPEN or CLOSED:
where it is no drift and meets no command, or, in STOPPED or HALTED, completes the command in flight, the reported
state and the time of the report are written, the expired request and the command are gone, no other element changes,
and the copy to node 30 waits. R103, R160: in STOPPED a report of FAULT ends the command in flight, keeps the expired
request and raises CONTACT_FAULT, class C, unless the contactor stood in FAULT with no command. Stated with no ACTIVE
ELEMENT_SILENT record of the element to end. R98, R99, R104, R188: a STATE frame of one entry for an actuator with no
command in flight: the motion, the position and the time of the report are written and nothing else of the element; an
entry of a code that is not the actuator's, or of no element, changes nothing but the link and the copy. R104, R107,
R121, R64: in STOPPED a position command is completed by AT_REST within the position deadband of its target, ends with
ACTUATOR_STALL, class C, at STALLED, and else stays in flight; its end sets the settle count to 0 and abandons the
round. The mark that a queued station frame loses is that of log entry 27; one raise of CONTACT_FAULT an entry is log
entry 25; that a FAULT repeated under a newer command ends it and raises again is the model's choice, log entry 53. -/
def Obligations.StateReportsAreTaken : Prop :=
  (∀ (src ch code hi lo : Byte) (e : Elem) (x : ContactState) (s : State),
    s.part.taking → s.part.field.link.up = true → s.part.stationBusy →
    s.part.bank.findElem src.toNat ch.toNat = some e → s.part.bank.elemKind e = .contactor →
    (code = 1 ∧ x = .opened ∨ code = 2 ∧ x = .closed) →
    (∀ r ∈ s.part.faults.records, ¬(r.active = true ∧ r.kind = .elementSilent ∧ r.object = .element e)) →
    let r := s.part.elems[e]
    let asked : ContactState → Option Command → Prop := fun x c =>
      ∃ k, c = some k ∧ (x = .opened ∧ k.order = .contact .opened ∨ x = .closed ∧ k.order = .contact .closed)
    let p := { s.part.fieldHeard with
      elems := s.part.elems.set e.val
        { r with contact := x, lastReport := some s.part.uptime, command := none, expired := none }
      field :=
        { s.part.fieldHeard.field with
          queue := s.part.field.queue.map fun y : FieldItem =>
            if r.command ≠ none ∧ y.owner = some e then { y with owner := none } else y } }
    (r.command = none ∧
        (r.contact = x ∨ r.contact = .unknown ∨ r.contact = .fault ∨ r.expired = some .opened ∧ x = .opened ∨
          r.expired = some .closed ∧ x = .closed)) ∨
      (asked x r.command ∧ (s.part.seq.mode = .stopped ∨ s.part.seq.mode = .halted)) →
    exec (.stateFrame src [ch, code, hi, lo]) s = .next
      { s with
        part := (p.relayed .field
          { dst := 30, src := src, kind := 3, payload := [ch, code, hi, lo] }).closed }) ∧
  (∀ (src ch hi lo : Byte) (e : Elem) (s : State),
    s.part.taking → s.part.field.link.up = true → s.part.stationBusy → s.part.seq.mode = .stopped →
    s.part.bank.findElem src.toNat ch.toNat = some e → s.part.bank.elemKind e = .contactor →
    (∀ r ∈ s.part.faults.records, ¬(r.active = true ∧ r.kind = .elementSilent ∧ r.object = .element e)) →
    let r := s.part.elems[e]
    let p := { s.part.fieldHeard with
      elems := s.part.elems.set e.val { r with contact := .fault, lastReport := some s.part.uptime, command := none }
      field :=
        { s.part.fieldHeard.field with
          queue := s.part.field.queue.map fun y : FieldItem =>
            if r.command ≠ none ∧ y.owner = some e then { y with owner := none } else y } }
    let done := fun q : Part =>
      exec (.stateFrame src [ch, 4, hi, lo]) s = .next
        { s with
          part := (q.relayed .field { dst := 30, src := src, kind := 3, payload := [ch, 4, hi, lo] }).closed }
    (r.command = none → r.contact = .fault → done p) ∧
    ((∃ k a, r.command = some k ∧ k.order = .contact a) ∨ (r.command = none ∧ r.contact ≠ .fault) →
      s.part.room .contactFault (.element e) →
      done (p.recorded .contactFault (.element e) .c))) ∧
  (∀ (src ch code hi lo : Byte) (s : State),
    s.part.taking → s.part.field.link.up = true → s.part.stationBusy →
    let copy : Frame := { dst := 30, src := src, kind := 3, payload := [ch, code, hi, lo] }
    (∀ (e : Elem) (m : Motion), s.part.bank.findElem src.toNat ch.toNat = some e →
      s.part.bank.elemKind e = .actuator → s.part.elems[e].command = none →
      (code = 3 ∧ m = .moving ∨ code = 5 ∧ m = .atRest ∨ code = 6 ∧ m = .stalled) →
      (∀ r ∈ s.part.faults.records, ¬(r.active = true ∧ r.kind = .elementSilent ∧ r.object = .element e)) →
      exec (.stateFrame src [ch, code, hi, lo]) s = .next
        { s with
          part := (({ s.part.fieldHeard with
            elems := s.part.elems.set e.val
              { s.part.elems[e] with
                motion := m, position := some (256 * hi.toNat + lo.toNat), lastReport := some s.part.uptime } } :
            Part).relayed .field copy).closed }) ∧
    (∀ (e : Elem) (c : Command) (n : Nat), s.part.bank.findElem src.toNat ch.toNat = some e →
      s.part.bank.elemKind e = .actuator → s.part.elems[e].command = some c → c.order = .position n →
      s.part.seq.mode = .stopped →
      (∀ r ∈ s.part.faults.records, ¬(r.active = true ∧ r.kind = .elementSilent ∧ r.object = .element e)) →
      let pos := 256 * hi.toNat + lo.toNat
      let reached := pos ≤ n + s.part.bank.posDeadband e ∧ n ≤ pos + s.part.bank.posDeadband e
      let reported := fun m : Motion =>
        { s.part.elems[e] with motion := m, position := some pos, lastReport := some s.part.uptime }
      let done := fun q : Part =>
        exec (.stateFrame src [ch, code, hi, lo]) s = .next { s with part := (q.relayed .field copy).closed }
      let ended := fun m : Motion =>
        ({ s.part.fieldHeard with
          elems := s.part.elems.set e.val { reported m with command := none, settleCount := 0 }
          round := { s.part.round with coverage := [] }
          field :=
            { s.part.fieldHeard.field with
              queue := s.part.field.queue.map fun y : FieldItem =>
                if y.owner = some e then { y with owner := none } else y } } : Part)
      (code = 5 → reached → done (ended .atRest)) ∧
      (code = 3 ∨ (code = 5 ∧ ¬reached) →
        done { s.part.fieldHeard with
          elems := s.part.elems.set e.val (reported (if code = 3 then .moving else .atRest)) }) ∧
      (code = 6 → s.part.room .actuatorStall (.element e) →
        done ((ended .stalled).recorded .actuatorStall (.element e) .c))) ∧
    (s.part.bank.findElem src.toNat ch.toNat = none ∨
        (∃ e, s.part.bank.findElem src.toNat ch.toNat = some e ∧
          (s.part.bank.elemKind e = .actuator ∧ code ≠ 3 ∧ code ≠ 5 ∧ code ≠ 6 ∨
            s.part.bank.elemKind e = .contactor ∧ (code = 0 ∨ 4 < code.toNat))) →
      exec (.stateFrame src [ch, code, hi, lo]) s = .next
        { s with part := (s.part.fieldHeard.relayed .field copy).closed }))

/-- R108, R157, R160: an uncommanded movement of a contactor is drift. Without QUIET it raises HOT_CONTACT, class A,
and halts the part in any state; with QUIET, in STOPPED, it raises CONTACT_DRIFT, class C, which is recorded only. -/
def Obligations.DriftIsJudgedByQuiet : Prop :=
  ∀ (src ch code hi lo : Byte) (e : Elem) (x : ContactState) (s : State),
    s.part.taking → s.part.bank.findElem src.toNat ch.toNat = some e →
    s.part.bank.elemKind e = .contactor → (code = 1 ∧ x = .opened ∨ code = 2 ∧ x = .closed) →
    s.part.elems[e].command = none → s.part.elems[e].expired = none → s.part.elems[e].contact ≠ x →
    (s.part.elems[e].contact = .opened ∨ s.part.elems[e].contact = .closed ∨ s.part.elems[e].contact = .moving) →
    let recordedAs := fun (t : State) (k : FaultKind) (cl : FaultClass) =>
      ∃ r ∈ t.part.faults.records, r.kind = k ∧ r.cls = cl ∧ r.object = .element e ∧ r.active = true
    (s.part.table.quiet = false → s.part.seq.mode ≠ .halted → s.part.room .hotContact (.element e) →
      ∃ t, exec (.stateFrame src [ch, code, hi, lo]) s = .next t ∧ t.part.seq.mode = .halted ∧
        t.part.seq.active = none ∧ t.part.ramp.inhibit = true ∧ t.part.ramp.level = 0 ∧
        t.part.elems[e].contact = x ∧ recordedAs t .hotContact .a ∧ t.part.pins.fault = true) ∧
    (s.part.table.quiet = true → s.part.seq.mode = .stopped → s.part.room .contactDrift (.element e) →
      ∃ t, exec (.stateFrame src [ch, code, hi, lo]) s = .next t ∧ t.part.seq = s.part.seq ∧
        t.part.ramp = s.part.ramp ∧ t.part.elems[e].contact = x ∧ recordedAs t .contactDrift .c ∧
        t.part.pins.fault = true)

/-- R105, R102, R109: a PART contactor command with the retry flag and no retry used is resent at its deadline where the
guard holds: retries used 1, a deadline one operate timeout on, a fresh frame in the arbiter; nothing else changes.
R105, R107, R64, R160: the deadline of a command that is not resent, in STOPPED: the command ends with CONTACT_TIMEOUT
or ACTUATOR_TIMEOUT, class C. A contactor keeps its request as the expired request; an actuator's end abandons the round
and sets its settle count to 0. R100, R101: the silence deadline of an element in STOPPED: a contactor is UNKNOWN
without an expired request, an actuator UNKNOWN without a position; the time of the last report is kept, which marks it
silent, and ELEMENT_SILENT is recorded as an advisory. The uptime at an expiry is that of log entry 3, and the mark that
a queued station frame loses that of log entry 27. -/
def Obligations.ElementDeadlinesEndCommandsAndReports : Prop :=
  (∀ (e : Elem) (c : Command) (a : Contact) (s : State), s.part.taking → s.part.fieldBusy →
    s.part.elems[e].command = some c → c.order = .contact a → c.origin = .part → c.retries = 0 →
    s.part.bank.elemRetry e = true → s.part.ramp.inhibit = true → s.part.table.quiet = true →
    let p := s.part.atExpiry c.deadline
    let f : Frame :=
      { dst := BitVec.ofNat 8 (s.part.bank.elemNode e), src := 0, kind := 4,
        payload := [BitVec.ofNat 8 (s.part.bank.elemChannel e), if a = .opened then 1 else 2, 0, 0] }
    exec (.commandDeadline e) s = .next
      { s with
        part := ({ p with
          elems := s.part.elems.set e.val
            { s.part.elems[e] with
              command := some
                { c with retries := 1, deadline := p.uptime + BitVec.ofNat 32 (10 * s.part.bank.u8 (130 + 8 * e.val)) } }
          field :=
            { s.part.field with
              commands := placeCommand s.part.field.commands { elem := e, order := c.order, frame := f } } } :
          Part).closed }) ∧
  (∀ (e : Elem) (c : Command) (s : State), s.part.taking → s.part.seq.mode = .stopped →
    s.part.elems[e].command = some c →
    let p := s.part.atExpiry c.deadline
    let q := s.part.field.queue.map fun x : FieldItem => if x.owner = some e then { x with owner := none } else x
    (∀ a, c.order = .contact a →
      c.origin = .station ∨ s.part.bank.elemRetry e = false ∨ c.retries ≠ 0 ∨ s.part.ramp.inhibit = false ∨
        s.part.table.quiet = false →
      s.part.room .contactTimeout (.element e) →
      exec (.commandDeadline e) s = .next
        { s with
          part := (({ p with
            elems := s.part.elems.set e.val { s.part.elems[e] with command := none, expired := some a }
            field := { s.part.field with queue := q } } : Part).recorded .contactTimeout (.element e) .c).closed }) ∧
    (∀ n, c.order = .position n → s.part.room .actuatorTimeout (.element e) →
      exec (.commandDeadline e) s = .next
        { s with
          part := (({ p with
            elems := s.part.elems.set e.val { s.part.elems[e] with command := none, settleCount := 0 }
            round := { s.part.round with coverage := [] }
            field := { s.part.field with queue := q } } :
            Part).recorded .actuatorTimeout (.element e) .c).closed })) ∧
  (∀ (e : Elem) (u : Uptime) (s : State), s.part.taking → s.part.seq.mode = .stopped →
    s.part.elems[e].lastReport = some u → s.part.room .elementSilent (.element e) →
    let p := s.part.atExpiry (u + 500)
    (s.part.bank.elemKind e = .contactor → s.part.elems[e].contact ≠ .unknown →
      exec (.silenceDeadline e) s = .next
        { s with
          part := (({ p with
            elems := s.part.elems.set e.val { s.part.elems[e] with contact := .unknown, expired := none } } :
            Part).recorded .elementSilent (.element e) .d).closed }) ∧
    (s.part.bank.elemKind e = .actuator → s.part.elems[e].motion ≠ .unknown →
      exec (.silenceDeadline e) s = .next
        { s with
          part := (({ p with
            elems := s.part.elems.set e.val { s.part.elems[e] with motion := .unknown, position := none } } :
            Part).recorded .elementSilent (.element e) .d).closed }))

/-- R112, R113, R115: the end of a dwell before a later group. Where the guard fails the group is WITHHELD and commands
nothing; the group index is its own by R113's step 1, which the worked example of section 6.7 does not show (log entry
45), and a WITHHELD group holds no step statuses by log entry 15. Where it holds, each step of a group of different
contactors is DEFERRED behind a command in flight, COMPLETE in the asked state, and else commanded; a group complete at
its start runs its dwell. R114, R107: the report that completes the last open step of a group completes the group, and
its dwell, ten times the largest of its steps, runs. R117, R92, R158: the end of the last group's dwell turns a NORMAL
change back with SET_MISMATCH, class B, where a contactor is not as the contactor set asks, and else ends SWITCHING:
PRESETTING is entered, and the monitor restarted with the to-pattern. Stated with TX_TRIP released. The uptime at the end
is that of log entry 3. -/
def Obligations.DwellEndStartsTheNextGroup : Prop :=
  (∀ (c : Change) (p : Pat) (d : Uptime) (x : SwitchStep) (g : List SwitchStep) (s : State), s.part.taking →
    s.part.seq.mode = .changing c → c.toPat = some p → s.part.walk.dwellDeadline = some d →
    (groupsOf (s.part.bank.switchList p))[c.group + 1]? = some (x :: g) →
    let r := s.part.atExpiry d
    let q := { s.part.seq with mode := .changing { c with group := c.group + 1 } }
    let status := fun y : SwitchStep =>
      if s.part.elems[y.elem].command ≠ none then StepStatus.deferred
      else if s.part.elems[y.elem].contact.is y.action = true then .complete
      else .commanded
    (s.part.ramp.inhibit = false ∨ s.part.table.quiet = false →
      exec .dwellEnd s = .next
        { s with
          part := ({ r with
            seq := q, walk := { state := .withheld, steps := [], dwellDeadline := none } } : Part).closed }) ∧
    (s.part.ramp.inhibit = true → s.part.table.quiet = true → s.part.fieldBusy →
      (x :: g).Pairwise (fun y z => y.elem ≠ z.elem) →
      ((∃ y ∈ x :: g, status y ≠ .complete) →
        ∃ t, exec .dwellEnd s = .next t ∧
          t.part = ({ r with
            seq := q
            walk := { state := .inGroup, steps := (x :: g).map status, dwellDeadline := none }
            elems := t.part.elems
            field := { s.part.field with commands := t.part.field.commands } } : Part).closed ∧
          (∀ y ∈ x :: g, status y = .commanded →
            t.part.elems[y.elem] =
              { s.part.elems[y.elem] with
                command := some
                  { origin := .part, order := .contact y.action
                    deadline := r.uptime + BitVec.ofNat 32 (10 * s.part.bank.u8 (130 + 8 * y.elem.val))
                    retries := 0, preset := false }
                expired := none } ∧
            ∃ f ∈ t.part.field.commands, f.elem = y.elem ∧ f.order = .contact y.action) ∧
          (∀ e : Elem, (∀ y ∈ x :: g, status y = .commanded → y.elem ≠ e) → t.part.elems[e] = s.part.elems[e])) ∧
      ((∀ y ∈ x :: g, status y = .complete) →
        ∀ y ∈ x :: g, 0 < y.dwell → (∀ z ∈ x :: g, z.dwell ≤ y.dwell) →
        exec .dwellEnd s = .next
          { s with
            part := ({ r with
              seq := q
              walk :=
                { state := .dwell, steps := (x :: g).map fun _ => .complete
                  dwellDeadline := some (r.uptime + BitVec.ofNat 32 (10 * y.dwell)) } } : Part).closed }))) ∧
  (∀ (src ch code hi lo : Byte) (e : Elem) (a : Contact) (k : Command) (c : Change) (p : Pat) (l : List SwitchStep)
      (s : State), s.part.taking →
    s.part.bank.findElem src.toNat ch.toNat = some e → s.part.bank.elemKind e = .contactor →
    s.part.elems[e].command = some k → k.order = .contact a → (code = 1 ∧ a = .opened ∨ code = 2 ∧ a = .closed) →
    s.part.seq.mode = .changing c → c.phase = .switching → c.toPat = some p →
    (groupsOf (s.part.bank.switchList p))[c.group]? = some l → s.part.walk.state = .inGroup →
    s.part.walk.steps = l.map (fun y => if y.elem = e then .commanded else .complete) →
    ∃ t, exec (.stateFrame src [ch, code, hi, lo]) s = .next t ∧
      t.part.elems[e].contact = (if a = .opened then .opened else .closed) ∧
      ∀ y ∈ l, 0 < y.dwell → (∀ z ∈ l, z.dwell ≤ y.dwell) →
        t.part.elems[e].command = none ∧ t.part.seq.mode = .changing c ∧
        t.part.walk =
          { state := .dwell, steps := l.map fun _ => .complete
            dwellDeadline := some (s.part.uptime + BitVec.ofNat 32 (10 * y.dwell)) }) ∧
  (∀ (c : Change) (p : Pat) (s : State), s.part.taking → s.part.lines.txTrip = false → s.part.fieldBusy →
    s.part.seq.mode = .changing c → c.toPat = some p → s.part.walk.dwellDeadline ≠ none →
    (groupsOf (s.part.bank.switchList p)).length ≤ c.group + 1 →
    let wrong := fun e : Elem =>
      s.part.bank.elemKind e = .contactor ∧ s.part.elems[e].contact.is (s.part.bank.required p e) = false
    ((∀ e : Elem, ¬wrong e) →
      ∃ t c', exec .dwellEnd s = .next t ∧ t.part.seq.mode = .changing c' ∧ c'.toPat = some p ∧
        c'.phase ≠ .rampDown ∧ c'.phase ≠ .muting ∧ c'.phase ≠ .switching ∧ c'.phaseDeadline = none ∧
        t.part.walk = { state := .idle, steps := [], dwellDeadline := none } ∧
        t.part.corr.config = s.part.bank.patternConfig p) ∧
    (∀ (e : Elem) (f : Pat), wrong e → (∀ j : Elem, j ≠ e → ¬wrong j) → c.kind ≠ .revert → c.fromPat = some f →
      s.part.bank.patDefined f = true → s.part.room .setMismatch (.element e) →
      ∃ t, exec .dwellEnd s = .next t ∧ Part.Reverted s.part t.part c (.fault .setMismatch) ∧
        ∃ r ∈ t.part.faults.records, r.kind = .setMismatch ∧ r.cls = .b ∧ r.object = .element e ∧ r.active = true))

/-- R122, R123, R82, R120: a CHANGE of no moves accepted in STOPPED enters PRESETTING, where the one used actuator entry
of its pattern is commanded with the preset mark, to its preset held within the limits, if its position is not known or
lies outside the position deadband of the preset; is deferred behind a command in flight; and else leaves nothing to wait
for, so that RAMP_TO_TRIM is entered with INHIBIT released. R104, R107, R124: in PRESETTING the AT_REST report that ends the
deferring command decides the preset again, and the one that ends the last preset ends the phase. A STALLED report ends it
as well, before its ACTUATOR_STALL, class B, turns a NORMAL change back (log entry 19). Stated with TX_TRIP released, no
bank adopted, and a trim level above 0. -/
def Obligations.PresetsAreMadeBeforeTheRamp : Prop :=
  (∀ (src tag n : Byte) (p : Pat) (x : ActuatorEntry) (s : State), s.part.taking →
    s.part.lines.localOn = false → s.part.lines.txTrip = false → n.toNat = p.val → s.part.seq.mode = .stopped →
    ¬s.part.adopts → s.part.bank.patDefined p = true → s.part.reachable p = true →
    s.part.movesNeeded (some p) = false → s.part.bank.actuatorEntries p = [x] →
    (∀ (e : Elem) (k : Command), s.part.elems[e].command = some k → k.preset = false) →
    s.part.trim.deferred = [] → s.part.ramp.level = 0 → s.part.fieldBusy →
    0 < min (s.part.bank.trimLevel p) (s.part.tables.mem.licensedLevel p) →
    let a := s.part.elems[x.elem]
    let needed := ∀ pos, a.position = some pos →
      pos + s.part.bank.posDeadband x.elem < x.preset ∨ x.preset + s.part.bank.posDeadband x.elem < pos
    let target := max (s.part.bank.posMin x.elem) (min x.preset (s.part.bank.posMax x.elem))
    ∃ t c, exec (.change src tag n) s = .next t ∧ t.part.seq.mode = .changing c ∧ c.toPat = some p ∧
      t.part.corr.config = s.part.bank.patternConfig p ∧
      (needed → a.command = none → s.part.bank.posMin x.elem ≤ s.part.bank.posMax x.elem →
        c.phase = .presetting ∧ t.part.trim.deferred = [] ∧ t.part.ramp.inhibit = s.part.ramp.inhibit ∧
        t.part.elems[x.elem] =
          { a with
            command := some
              { origin := .part, order := .position target
                deadline := s.part.uptime + BitVec.ofNat 32 (100 * s.part.bank.u8 (130 + 8 * x.elem.val))
                retries := 0, preset := true }
            expired := none, trimCount := 0, settleCount := 0, atLimit := false } ∧
        ∃ f ∈ t.part.field.commands, f.elem = x.elem ∧ f.order = .position target) ∧
      (needed → a.command ≠ none →
        c.phase = .presetting ∧ t.part.trim.deferred = [x.elem] ∧ t.part.ramp.inhibit = s.part.ramp.inhibit ∧
        t.part.elems[x.elem] = { a with trimCount := 0, settleCount := 0 }) ∧
      (¬needed →
        c.phase = .rampToTrim ∧ t.part.trim.deferred = [] ∧ t.part.ramp.inhibit = false ∧
        t.part.ramp.inProgress = true ∧
        t.part.ramp.target = min (s.part.bank.trimLevel p) (s.part.tables.mem.licensedLevel p) ∧
        t.part.elems[x.elem] = { a with trimCount := 0, settleCount := 0 })) ∧
  (∀ (src ch code hi lo : Byte) (e : Elem) (k : Command) (n : Nat) (c : Change) (p : Pat) (x : ActuatorEntry)
      (s : State), s.part.taking → s.part.lines.txTrip = false → s.part.fieldBusy →
    s.part.bank.findElem src.toNat ch.toNat = some e → s.part.bank.elemKind e = .actuator →
    s.part.elems[e].command = some k → k.order = .position n →
    (∀ (j : Elem) (y : Command), j ≠ e → s.part.elems[j].command = some y → y.preset = false) →
    s.part.seq.mode = .changing c → c.phase = .presetting → c.toPat = some p →
    s.part.bank.actuatorEntries p = [x] → x.elem = e → s.part.ramp.level = 0 →
    0 < min (s.part.bank.trimLevel p) (s.part.tables.mem.licensedLevel p) →
    let pos := 256 * hi.toNat + lo.toNat
    let within := fun d => pos ≤ d + s.part.bank.posDeadband e ∧ d ≤ pos + s.part.bank.posDeadband e
    let begun := fun t : State =>
      t.part.seq.mode = .changing { c with phase := .rampToTrim } ∧ t.part.trim.deferred = [] ∧
        t.part.ramp.inhibit = false ∧ t.part.ramp.inProgress = true ∧ t.part.elems[e].command = none
    (code = 5 → within n →
      ∃ t, exec (.stateFrame src [ch, code, hi, lo]) s = .next t ∧
        t.part.elems[e].position = some pos ∧ t.part.elems[e].settleCount = 0 ∧
        (s.part.trim.deferred = [] ∨ (s.part.trim.deferred = [e] ∧ within x.preset) → begun t) ∧
        (s.part.trim.deferred = [e] → ¬within x.preset → s.part.bank.posMin e ≤ s.part.bank.posMax e →
          t.part.seq.mode = .changing c ∧ t.part.trim.deferred = [] ∧
          t.part.elems[e].command = some
            { origin := .part, order := .position (max (s.part.bank.posMin e) (min x.preset (s.part.bank.posMax e)))
              deadline := s.part.uptime + BitVec.ofNat 32 (100 * s.part.bank.u8 (130 + 8 * e.val))
              retries := 0, preset := true })) ∧
    (∀ f, code = 6 → s.part.trim.deferred = [] → c.kind ≠ .revert → c.fromPat = some f →
      s.part.bank.patDefined f = true → s.part.room .actuatorStall (.element e) →
      ∃ t, exec (.stateFrame src [ch, code, hi, lo]) s = .next t ∧
        Part.Reverted s.part t.part c (.fault .actuatorStall) ∧
        ∃ r ∈ t.part.faults.records, r.kind = .actuatorStall ∧ r.cls = .b ∧ r.object = .element e ∧
          r.active = true ∧ r.situation = .changing .rampToTrim))

/-- R126: a window close of tower k tells the trim pattern's actuator entry of that tower: its settle count rises while it
has no command. R125, R126: where it is eligible, and the error passes the deadband, it is stepped. R127: the ratio error
is in per mille of the target, truncated and held to ±32767, the phase error in centidegrees. R128: the step is
sense · gain · error / 256 to the nearest integer, an exact half away from zero, held to the largest step. R129, R120: a
target within the limits that is not the position is commanded and counted. R130: at the end of travel the at-limit flag is
set, and ACTUATOR_LIMIT recorded once. R131, R132: with the budget spent TRIM_EXHAUSTED is raised, class B in a change,
which a NORMAL change from a defined pattern is turned back by, and class C in IN_PATTERN, where the actuator is marked; a
trim count above the limit acts as one at it, and a step of 0 does not prevent it, by log entry 44. Stated of one entry of
the tower, with a target ratio above 0 (log entry 43) and another installed tower left to be covered; the reading is that
of WindowCloseWritesTheReading. -/
def Obligations.TrimStepsFollowTheReading : Prop :=
  ∀ (src : Byte) (payload : List Byte) (k j : Tower) (e : Entry) (r : Block) (p : Pat) (x : ActuatorEntry)
      (ts : Vector TowerTarget 12) (s : State),
    s.part.taking → payload.length = 131 → s.part.bank.towerOfNode src = some k →
    s.part.store.entries.Pairwise (fun y z => y.index ≠ z.index) → e ∈ s.part.store.entries →
    e.index = payload.getD 0 0 ++ payload.getD 1 0 → e.refBlock = some r → e.epoch = true → k ≠ e.refTower →
    k ≠ s.part.corr.config.refTower → (∀ y, (k, y) ∉ e.held) → k ∉ e.combined →
    s.part.corr.accums[k].count + 1 = 2 ^ s.part.corr.config.w → s.part.corr.config.targets = some ts →
    s.part.bank.installed j = true → j ≠ k → j ∉ s.part.round.coverage →
    (∀ y : Elem, s.part.elems[y].contactInFlight = false) → s.part.fieldBusy →
    s.part.trimPattern = some p → (s.part.bank.actuatorEntries p).filter (fun y => decide (y.tower = k)) = [x] →
    (x.quantity = .ratio → 0 < ts[k].ratio) →
    let z := s.part.table.readings[k].close (s.part.corr.accums[k].addCross s.part.corr.config.s r (blockOf payload))
      s.part.bank.signalFloor false
    let a := s.part.elems[x.elem]
    let settle := if a.command = none then upTo 255 a.settleCount else a.settleCount
    let inPattern := s.part.seq.mode = .inPattern ∧ s.part.bank.continuous p = true
    let applies := s.part.corr.config.source = some p ∧
      (inPattern ∨ ∃ c, s.part.seq.mode = .changing c ∧ (c.phase = .trimming ∨ c.phase = .verifying))
    let eligible := applies ∧ x.elem ∉ s.part.trim.exhausted ∧ z.state = .valid ∧ ts[k].role = .lit ∧
      a.command = none ∧ (a.motion = .atRest ∨ a.motion = .stalled) ∧ s.part.bank.settleWindows p ≤ settle
    ∃ t, exec (.sampleArrival src payload) s = .next t ∧
      (¬eligible ∨ a.position = none →
        t.part.elems = s.part.elems.set x.elem.val { a with settleCount := settle } ∧
        t.part.trim = s.part.trim ∧ t.part.field.commands = s.part.field.commands) ∧
      ∀ (pos : Nat) (err : Int), eligible → a.position = some pos →
        (x.quantity = .ratio →
          err = max (-32767) (min 32767 (Int.tdiv (((ts[k].ratio : Int) - z.ratio) * 1000) ts[k].ratio))) →
        (x.quantity = .phase →
          ∃ n : Int, -err = z.phase - ts[k].phase + 36000 * n ∧ -18000 ≤ -err ∧ -err ≤ 17999) →
        -18000 ≤ z.phase → z.phase ≤ 17999 → -18000 ≤ ts[k].phase → ts[k].phase ≤ 17999 →
        x.sense = 1 ∨ x.sense = -1 →
        let size := min x.maxStep ((x.gain * err.natAbs + 128) / 256)
        let step := x.sense * err.sign * (size : Int)
        let target := max (s.part.bank.posMin x.elem : Int) (min (pos + step) (s.part.bank.posMax x.elem))
        (err.natAbs ≤ x.deadband ∨ (a.trimCount < s.part.bank.trimLimit p ∧ size = 0) →
          t.part.elems = s.part.elems.set x.elem.val { a with settleCount := settle } ∧
          t.part.trim = s.part.trim ∧ t.part.field.commands = s.part.field.commands) ∧
        (x.deadband < err.natAbs → a.trimCount < s.part.bank.trimLimit p → 0 < size →
          s.part.bank.posMin x.elem ≤ s.part.bank.posMax x.elem →
          (target ≠ pos →
            t.part.elems = s.part.elems.set x.elem.val
              { a with
                settleCount := settle
                trimCount := upTo 255 a.trimCount
                command := some
                  { origin := .part, order := .position target.toNat
                    deadline := s.part.uptime + BitVec.ofNat 32 (100 * s.part.bank.u8 (130 + 8 * x.elem.val))
                    retries := 0, preset := false }
                expired := none, atLimit := false } ∧
            t.part.trim = s.part.trim ∧
            ∃ f ∈ t.part.field.commands, f.elem = x.elem ∧ f.order = .position target.toNat) ∧
          (target = pos →
            t.part.elems = s.part.elems.set x.elem.val { a with settleCount := settle, atLimit := true } ∧
            t.part.field.commands = s.part.field.commands ∧
            (let records := a.atLimit = false ∧ s.part.trim.allowance = true
             (records → t.part.trim = { s.part.trim with allowance := false } ∧
              (s.part.room .actuatorLimit (.element x.elem) →
                ∃ y ∈ t.part.faults.records, y.kind = .actuatorLimit ∧ y.cls = .d ∧ y.object = .element x.elem)) ∧
             (¬records → t.part.trim = s.part.trim)))) ∧
        (x.deadband < err.natAbs → s.part.bank.trimLimit p ≤ a.trimCount →
          let recordedAs := fun cl : FaultClass =>
            s.part.room .trimExhausted (.element x.elem) →
            ∃ y ∈ t.part.faults.records, y.kind = .trimExhausted ∧ y.cls = cl ∧ y.object = .element x.elem ∧
              y.active = true
          (inPattern →
            t.part.elems = s.part.elems.set x.elem.val { a with settleCount := settle } ∧
            x.elem ∈ t.part.trim.exhausted ∧ t.part.seq.mode = .inPattern ∧ t.part.seq.sub = .degraded ∧
            recordedAs .c) ∧
          (∀ c f, s.part.seq.mode = .changing c → c.kind ≠ .revert → c.fromPat = some f →
            s.part.bank.patDefined f = true → s.part.lines.txTrip = false →
            Part.Reverted s.part t.part c (.fault .trimExhausted) ∧ recordedAs .b))

/-- R110, R169, R171, R102: a station ELEM_CMD that names a contactor: the four checks in their order, the first that
fails answered by a REFUSED frame and nothing else; a frame that passes waits in the field-bound queue with its STATION
command created, or, at a full queue, is counted and creates none. The mark that ties the queued frame to its command is
that of log entry 27. -/
def Obligations.StationContactorFrameIsGuarded : Prop :=
  ∀ (dst src : Byte) (payload : List Byte) (e : Elem) (s : State), s.part.taking → s.part.fieldBusy →
    1 ≤ dst.toNat → dst.toNat ≤ 23 → payload ≠ [] →
    s.part.bank.findElem dst.toNat ((payload.getD 0 0).toNat % 16) = some e → s.part.bank.elemKind e = .contactor →
    let f : Frame := { dst := dst, src := src, kind := 4, payload := payload }
    let refused := fun r : Byte =>
      exec (.stationElemCmdContactor dst src payload) s = .next { s with part := s.part.answered (refusal f r) }
    let code := payload.getD 1 0
    let stopped := s.part.seq.mode = .stopped ∨ s.part.seq.mode = .halted
    let guarded := s.part.bank.stationWhenStopped e = false ∨ payload.length ≠ 4 ∨ (code ≠ 1 ∧ code ≠ 2)
    let unquiet := s.part.ramp.inhibit = false ∨ s.part.table.quiet = false
    (¬stopped → refused 1) ∧
    (stopped → guarded → refused 2) ∧
    (stopped → ¬guarded → unquiet → refused 3) ∧
    (stopped → ¬guarded → ¬unquiet → s.part.elems[e].command ≠ none → refused 4) ∧
    (stopped → ¬guarded → ¬unquiet → s.part.elems[e].command = none →
      exec (.stationElemCmdContactor dst src payload) s = .next
        { s with
          part := (({ s.part.stationHeard with
            elems :=
              if s.part.field.queue.length < 8 then
                s.part.elems.set e.val
                  { s.part.elems[e] with
                    command := some
                      { origin := .station, order := .contact (if code = 1 then .opened else .closed)
                        deadline := s.part.uptime + BitVec.ofNat 32 (10 * s.part.bank.u8 (130 + 8 * e.val))
                        retries := 0, preset := false }
                    expired := none }
              else s.part.elems } : Part).forwarded f (some e)).closed })

/-- R134, R169, R171: a station ELEM_CMD that names an actuator, likewise: refused STATE while CHANGING and in
IN_PATTERN of a CONTINUOUS pattern, GUARD without the flag of the state, without a position or with one outside the
limits, BUSY with a command in flight; otherwise forwarded with its STATION command created. The mark that ties the
queued frame to its command is that of log entry 27. -/
def Obligations.StationActuatorFrameIsGuarded : Prop :=
  ∀ (dst src : Byte) (payload : List Byte) (e : Elem) (s : State), s.part.taking → s.part.fieldBusy →
    1 ≤ dst.toNat → dst.toNat ≤ 23 → payload ≠ [] →
    s.part.bank.findElem dst.toNat ((payload.getD 0 0).toNat % 16) = some e → s.part.bank.elemKind e = .actuator →
    let f : Frame := { dst := dst, src := src, kind := 4, payload := payload }
    let refused := fun r : Byte =>
      exec (.stationElemCmdActuator dst src payload) s = .next { s with part := s.part.answered (refusal f r) }
    let pos := 256 * (payload.getD 2 0).toNat + (payload.getD 3 0).toNat
    let inPattern := s.part.seq.mode = .inPattern
    let closed := (∃ c, s.part.seq.mode = .changing c) ∨
      (inPattern ∧ ∃ p, s.part.seq.active = some p ∧ s.part.bank.continuous p = true)
    let guarded := (inPattern ∧ s.part.bank.stationInPattern e = false) ∨
      (¬inPattern ∧ s.part.bank.stationWhenStopped e = false) ∨ payload.length ≠ 4 ∨ payload.getD 1 0 ≠ 3 ∨
      pos < s.part.bank.posMin e ∨ s.part.bank.posMax e < pos
    (closed → refused 1) ∧
    (¬closed → guarded → refused 2) ∧
    (¬closed → ¬guarded → s.part.elems[e].command ≠ none → refused 4) ∧
    (¬closed → ¬guarded → s.part.elems[e].command = none →
      exec (.stationElemCmdActuator dst src payload) s = .next
        { s with
          part := (({ s.part.stationHeard with
            elems :=
              if s.part.field.queue.length < 8 then
                s.part.elems.set e.val
                  { s.part.elems[e] with
                    command := some
                      { origin := .station, order := .position pos
                        deadline := s.part.uptime + BitVec.ofNat 32 (100 * s.part.bank.u8 (130 + 8 * e.val))
                        retries := 0, preset := false }
                    expired := none, atLimit := false }
              else s.part.elems } : Part).forwarded f (some e)).closed })

/-! ### Transmitter power -/

/-- R140, R138: the next send time of a ramp moves L toward T by at most the ramp step, both held to the licensed level
of the governing pattern, and hands over a POWER frame carrying the new L. Short of T the next send is one interval on;
at T, with the transmitter not within tolerance, the ramp goes on without one. R141: a send that brings L to T with the
last report within the ramp tolerance of T completes the ramp in progress. Outside CHANGING, and in a phase that waits
on no ramp, this has no other effect; R79, R83, R87, R88, R145, R155: it ends RAMP_DOWN in STOPPED, or in MUTING with
INHIBIT asserted, stated with QUIET lost, RAMP_TO_TRIM in TRIMMING with the monitor restarted, and RAMP_FINAL in
IN_PATTERN NORMAL, stated with nothing that raises a class C fault at the entry (Part.RampEnded). Stated there with no
request waiting. The next send time goes with the completion by log entry 16. R146, R168, R189: a TX_STATE of node 24
for nodes 24 to 30 with no ramp in progress: the reported level is recorded as it stands, where the frame carries one,
and the frame is relayed. The uptime at a send is that of log entry 3. -/
def Obligations.RampSendsAndReportsMoveTheLevels : Prop :=
  (∀ (d : Uptime) (s : State), s.part.taking → s.part.ramp.nextSend = some d → s.part.stationBusy →
    let p := s.part.atExpiry d
    let target := min s.part.ramp.target s.part.licensedNow
    let level := s.part.ramp.level
    let step := s.part.ramp.step
    let moved := min
      (if level + step < target then level + step else if target + step < level then level - step else target)
      s.part.licensedNow
    let left := { s.part.ramp with level := moved, target := target, nextSend := none }
    let sent := fun next : Option Uptime =>
      exec .rampSend s = .next
        { s with
          part := ({ p with
            ramp := { left with nextSend := next }
            station := { s.part.station with power := some moved } } : Part).closed }
    (moved ≠ target → sent (some (p.uptime + BitVec.ofNat 32 s.part.ramp.interval))) ∧
    (moved = target → ¬left.Complete → sent none) ∧
    (left.Complete →
      ((∀ c, s.part.seq.mode = .changing c →
          c.phase ≠ .rampDown ∧ c.phase ≠ .rampToTrim ∧ c.phase ≠ .rampFinal) →
        exec .rampSend s = .next
          { s with
            part := ({ p with
              ramp := left.completed
              station := { s.part.station with power := some moved } } : Part).closed }) ∧
      (∀ c, s.part.seq.mode = .changing c → s.part.seq.slot = none →
        ∃ t, exec .rampSend s = .next t ∧ t.pending = s.pending ∧
          Part.RampEnded s.part t.part c left.completed p.uptime ∧
          t.part.station.power = some t.part.ramp.level ∧ t.part.uptime = p.uptime ∧ t.part.tables = s.part.tables ∧
          t.part.timer = s.part.timer ∧ t.part.lines = s.part.lines ∧ t.part.clock = s.part.clock ∧
          t.part.sched = s.part.sched))) ∧
  (∀ (dst : Byte) (payload : List Byte) (s : State), s.part.taking → s.part.stationBusy →
    s.part.ramp.inProgress = false → 24 ≤ dst.toNat → dst.toNat ≤ 30 →
    exec (.txState dst payload) s = .next
      { s with
        part := (({ s.part.stationHeard with
          ramp :=
            if payload.length = 2 then
              { s.part.ramp with
                lastReported := some (256 * (payload.getD 0 0).toNat + (payload.getD 1 0).toNat) }
            else s.part.ramp } : Part).relayed .station
              { dst := dst, src := 24, kind := 6, payload := payload }).closed })

/-- R87, R141, R146, R155, R184: a TX_STATE within tolerance in RAMP_FINAL with L at T completes the change: IN_PATTERN
NORMAL under the to-pattern, the run and the restore count 0, every ACTIVE event record of classes A to C ended, the
lamp lit. Stated with nothing that raises a class C fault at the entry and no request waiting. The next send time goes
with the completion by log entry 16. -/
def Obligations.FinalRampEndsInPattern : Prop :=
  ∀ (hi lo : Byte) (c : Change) (p : Pat) (s : State), s.part.taking → s.part.stationBusy →
    s.part.seq.mode = .changing c → c.phase = .rampFinal → c.toPat = some p → s.part.seq.slot = none →
    s.part.ramp.inProgress = true → s.part.ramp.level = s.part.ramp.target →
    256 * hi.toNat + lo.toNat ≤ s.part.ramp.target + s.part.ramp.tolerance →
    s.part.ramp.target ≤ 256 * hi.toNat + lo.toNat + s.part.ramp.tolerance →
    s.part.lines.txTrip = false → s.part.field.link.up = true →
    (∀ k : Tower, s.part.bank.installed k = true → s.part.table.readings[k].state ≠ .stale) →
    (∀ e : Elem, s.part.silent e = false) →
    exec (.txState 30 [hi, lo]) s = .next
      { s with
        part := (({ s.part.stationHeard with
          seq :=
            { s.part.seq with
              mode := .inPattern, sub := .normal, active := some p, ootRun := 0, ootRaised := false, restore := 0 }
          ramp :=
            { s.part.ramp with
              lastReported := some (256 * hi.toNat + lo.toNat)
              inProgress := false, deadline := none, nextSend := none }
          faults := { s.part.faults with records := eventsEnded s.part.faults.records } } : Part).relayed .station
            { dst := 30, src := 24, kind := 6, payload := [hi, lo] }).closed }

/-- R148, R170, R171: a station POWER frame for node 24: refused STATE outside IN_PATTERN, GUARD without a level, BUSY
with a ramp in progress; otherwise forwarded with its level held to that of the substatus and of the licence, L and T
set to it; at a full queue it is counted and nothing is set. R140, R149: a POWER frame of the part's that waits is
replaced by one carrying the new L (log entry 42). -/
def Obligations.StationPowerIsClamped : Prop :=
  ∀ (src : Byte) (payload : List Byte) (s : State), s.part.taking → s.part.stationBusy →
    let f : Frame := { dst := 24, src := src, kind := 5, payload := payload }
    let refused := fun r : Byte =>
      exec (.stationPower src payload) s = .next { s with part := s.part.answered (refusal f r) }
    let asked := 256 * (payload.getD 0 0).toNat + (payload.getD 1 0).toNat
    (s.part.seq.mode ≠ .inPattern → refused 1) ∧
    (s.part.seq.mode = .inPattern →
      (payload.length ≠ 2 → refused 2) ∧
      (payload.length = 2 → s.part.ramp.inProgress = true → refused 4) ∧
      (∀ p, payload.length = 2 → s.part.ramp.inProgress = false → s.part.seq.active = some p →
        let level := min (min asked
          (if s.part.seq.sub = .normal then s.part.bank.operatingLevel p else s.part.bank.degradedLevel p))
          (s.part.tables.mem.licensedLevel p)
        exec (.stationPower src payload) s = .next
          { s with
            part := (({ s.part.stationHeard with
              ramp :=
                if s.part.station.queue.length < 8 then { s.part.ramp with level := level, target := level }
                else s.part.ramp
              station :=
                { s.part.stationHeard.station with
                  power :=
                    if s.part.station.queue.length < 8 then s.part.station.power.map fun _ => level
                    else s.part.station.power } } : Part).relayed .station
              (if level = asked then f
               else { f with payload := [BitVec.ofNat 8 (level / 256), BitVec.ofNat 8 level] })).closed }))

/-! ### Links, queues and arbiters -/

/-- R165, R186, R187: the bytes of every valid frame pass the envelope checks and give the frame back. R165, R187:
received bytes that pass the envelope checks are exactly those of a frame with a payload of at most 200 bytes: 4
header bytes, the payload, and the CRC high byte first. -/
def Obligations.FrameBytesAndFramesAgree : Prop :=
  (∀ f : Frame, f.payload.length ≤ 200 → frameOfBytes f.wire = some f) ∧
  (∀ (bytes : List Byte) (f : Frame), frameOfBytes bytes = some f →
    bytes = f.wire ∧ f.payload.length ≤ 200 ∧ bytes.length = f.payload.length + 6)

/-- R165: received bytes that fail the envelope checks have no effect: they do not count for the link, in a discard
count or for an answer. R164, R166: a field frame that the table discards (POWER; for node 0 of a kind other than
SAMPLE and STATE; for a field node) counts for the link alone. At a Field Port that was DOWN it also ends an ACTIVE
FIELD_LINK_DOWN record, stated outside IN_PATTERN, where no restore count is kept. R168: a station frame for node 0
that is neither MGMT_REQ nor TIME, and no TX_STATE of node 24, counts for the link alone. -/
def Obligations.DiscardedFramesCountForTheLinkAlone : Prop :=
  (∀ (port : Port) (bytes : List Byte) (s : State), s.part.taking →
    (bytes.length < 6 ∨ (∀ f : Frame, f.payload.length ≤ 200 → bytes ≠ f.wire)) →
    exec (.frameEnvelopeFail port bytes) s = .next { s with part := s.part.closed }) ∧
  (∀ (f : Frame) (s : State), s.part.taking →
    (f.kind = 5 ∨ (f.dst = 0 ∧ f.kind ≠ 2 ∧ f.kind ≠ 3) ∨ (1 ≤ f.dst.toNat ∧ f.dst.toNat ≤ 23) ∨ f.dst = 31) →
    (s.part.field.link.up = true →
      exec (.fieldFrameDiscard f) s = .next { s with part := s.part.fieldHeard.closed }) ∧
    (s.part.field.link.up = false → s.part.seq.mode ≠ .inPattern →
      exec (.fieldFrameDiscard f) s = .next
        { s with
          part := ({ s.part.fieldHeard with
            faults :=
              { s.part.faults with
                records := s.part.faults.records.map fun r : FaultRecord =>
                  if r.active = true ∧ r.kind = .fieldLinkDown ∧ r.object = .nothing then { r with active := false }
                  else r } } : Part).closed })) ∧
  (∀ (f : Frame) (s : State), s.part.taking → f.dst = 0 → f.kind ≠ 8 → f.kind ≠ 7 →
    ¬(f.kind = 6 ∧ f.src = 24) →
    exec (.stationFrameDiscard f) s = .next { s with part := s.part.stationHeard.closed })

/-- R166, R168, R170, R172: a frame for nodes 24 to 30 is placed unchanged in the station-bound queue behind a
transmission, or discarded at a full queue and counted at the port that received it; a port at which nothing waits
sends it at once. R169, R170, R171: a station ELEM_CMD for node 31 is refused GUARD; every other station frame for
field nodes that names no known element is placed unchanged in the field-bound queue and creates no command, or is
counted at a full queue. -/
def Obligations.ForwardedFramesWaitInTheQueues : Prop :=
  (∀ (f : Frame) (s : State), s.part.taking → 24 ≤ f.dst.toNat → f.dst.toNat ≤ 30 →
    let other := ¬(f.kind = 5 ∧ f.dst = 24) ∧ ¬(f.kind = 6 ∧ f.src = 24)
    let empty := s.part.station.sending = none ∧ s.part.station.replies = [] ∧ s.part.station.power = none ∧
      s.part.station.monitor = none ∧ s.part.station.queue = []
    (s.part.stationBusy → s.part.field.link.up = true → f.kind ≠ 5 →
      exec (.fieldFrameRelay f) s = .next { s with part := (s.part.fieldHeard.relayed .field f).closed }) ∧
    (s.part.stationBusy → other →
      exec (.stationFrameRelay f) s = .next { s with part := (s.part.stationHeard.relayed .station f).closed }) ∧
    (empty → other →
      exec (.stationFrameRelay f) s = .next
        { s with
          part := ({ s.part with
            station := { s.part.station with link := Link.heard s.part.uptime, sending := some f } } : Part).closed })) ∧
  ((∀ (src : Byte) (payload : List Byte) (s : State), s.part.taking →
    exec (.broadcastElemCmd src payload) s = .next
      { s with
        part := s.part.answered (refusal { dst := 31, src := src, kind := 4, payload := payload } 2) }) ∧
  ∀ (f : Frame) (s : State), s.part.taking → s.part.fieldBusy → ¬(f.kind = 6 ∧ f.src = 24) →
    (1 ≤ f.dst.toNat ∧ f.dst.toNat ≤ 23) ∨ (f.dst = 31 ∧ f.kind ≠ 4) →
    (f.kind = 4 → f.payload = [] ∨
      s.part.bank.findElem f.dst.toNat ((f.payload.getD 0 0).toNat % 16) = none) →
    exec (.fieldBoundForward f) s = .next { s with part := (s.part.stationHeard.forwarded f none).closed })

/-- R164, R174: the link deadline of a port. The Station Port goes DOWN, its waiting MONITOR frame is discarded, and
STATION_LINK_DOWN is recorded with class D in every state. The Field Port goes DOWN with FIELD_LINK_DOWN: class C in
STOPPED and HALTED, where it is recorded only; class C in IN_PATTERN, where NORMAL becomes DEGRADED with a ramp to the
degraded level held to the licence, DEGRADED stays, and the restore count is 0 (R95, R139, R160); class B while
CHANGING. R158, R92: it turns a change of attribute NORMAL or RESEAT from a defined pattern back. R159: during a
reversion it is a second failure, which halts the part where the to-pattern is NONE or the phase comes before
RAMP_TO_TRIM; from RAMP_TO_TRIM on it leaves the array IN_PATTERN DEGRADED with REVERT_INCOMPLETE recorded, where the
entry raises FIELD_LINK_DOWN again, with class C (R154). Stated there with no request waiting. The uptime at an expiry
is that of log entry 3. -/
def Obligations.LinkDeadlineTakesThePortDown : Prop :=
  (∀ (d : Uptime) (s : State), s.part.taking →
    s.part.station.link.deadline = some d → s.part.room .stationLinkDown .nothing →
    exec (.linkDeadline .station) s = .next
      { s with
        part := (({ s.part.atExpiry d with
          station := { s.part.station with link := { up := false, deadline := none }, monitor := none } } :
          Part).recorded .stationLinkDown .nothing .d).closed }) ∧
  (∀ (d : Uptime) (s : State), s.part.taking →
    s.part.field.link.deadline = some d → s.part.room .fieldLinkDown .nothing →
    let p := { s.part.atExpiry d with field := { s.part.field with link := { up := false, deadline := none } } }
    let known := (p.recorded .fieldLinkDown .nothing .c).faults
    (s.part.seq.mode = .stopped ∨ s.part.seq.mode = .halted →
      exec (.linkDeadline .field) s = .next { s with part := (p.recorded .fieldLinkDown .nothing .c).closed }) ∧
    (s.part.seq.mode = .inPattern → s.part.seq.sub = .degraded →
      exec (.linkDeadline .field) s = .next
        { s with part := ({ p with faults := known, seq := { s.part.seq with restore := 0 } } : Part).closed }) ∧
    (∀ q, s.part.seq.mode = .inPattern → s.part.seq.sub = .normal → s.part.seq.active = some q →
      ∃ t, exec (.linkDeadline .field) s = .next t ∧ t.pending = s.pending ∧
        t.part.ramp.target = min (s.part.bank.degradedLevel q) (s.part.tables.mem.licensedLevel q) ∧
        t.part.ramp.level = s.part.ramp.level ∧ t.part.ramp.inhibit = s.part.ramp.inhibit ∧
        t.part = { p with
          raised := []
          pins := { fault := true, inPattern := false }
          seq := { s.part.seq with sub := .degraded, restore := 0 }
          ramp := t.part.ramp
          faults := known
          station := t.part.station })) ∧
  (∀ (d : Uptime) (c : Change) (s : State), s.part.taking →
    s.part.field.link.deadline = some d → s.part.room .fieldLinkDown .nothing → s.part.seq.mode = .changing c →
    let record := fun (t : State) (cl : FaultClass) =>
      ∃ r ∈ t.part.faults.records, r.kind = .fieldLinkDown ∧ r.cls = cl ∧ r.active = true ∧ r.object = .nothing ∧
        r.situation = .changing c.phase ∧ r.pats = some (c.fromPat, c.toPat)
    let early := c.phase = .rampDown ∨ c.phase = .muting ∨ c.phase = .switching ∨ c.phase = .presetting
    (∀ q, c.kind ≠ .revert → c.fromPat = some q → s.part.bank.patDefined q = true → s.part.lines.txTrip = false →
      ∃ t, exec (.linkDeadline .field) s = .next t ∧ t.pending = s.pending ∧
        Part.Reverted s.part t.part c (.fault .fieldLinkDown) ∧
        t.part.field.link = { up := false, deadline := none } ∧ record t .b) ∧
    (c.kind = .revert → c.toPat = none ∨ early →
      ∃ t, exec (.linkDeadline .field) s = .next t ∧ t.pending = s.pending ∧
        t.part.field.link = { up := false, deadline := none } ∧ record t .b ∧
        t.part.seq.mode = .halted ∧ t.part.seq.active = none ∧ t.part.seq.slot = none ∧
        t.part.ramp.inhibit = true ∧ t.part.ramp.level = 0 ∧ t.part.ramp.target = 0 ∧
        t.part.ramp.inProgress = false) ∧
    (∀ q, c.kind = .revert → c.toPat = some q → ¬early → s.part.seq.slot = none →
      s.part.faults.records.length ≤ 12 →
      (∀ r ∈ s.part.faults.records, ¬(r.active = true ∧ r.kind = .revertIncomplete ∧ r.object = .nothing)) →
      ∃ t, exec (.linkDeadline .field) s = .next t ∧ t.pending = s.pending ∧
        t.part.field.link = { up := false, deadline := none } ∧ record t .c ∧
        t.part.seq =
          { s.part.seq with
            mode := .inPattern, sub := .degraded, active := some q, ootRun := 0, ootRaised := false, restore := 0 } ∧
        t.part.ramp.target = min (s.part.bank.degradedLevel q) (s.part.tables.mem.licensedLevel q) ∧
        t.part.ramp.level = s.part.ramp.level ∧ t.part.ramp.inhibit = s.part.ramp.inhibit ∧
        ∃ r ∈ t.part.faults.records, r.kind = .revertIncomplete ∧ r.cls = .c ∧ r.active = true ∧
          r.object = .nothing))

/-- R172, R174, R149: at the end of a transmission of the Station Port its arbiter takes the oldest reply, else the
part's POWER frame, else the MONITOR frame, else the oldest frame of the station-bound queue; a forwarded POWER frame
under INHIBIT, above the licensed level, or overtaken by a ramp order is withdrawn and answered REFUSED with STATE. The
REFUSED frame of a withdrawn frame is the frame of the next choice by log entry 35, and the part's POWER frame is held to
the licensed level at its choice by log entry 42. -/
def Obligations.StationArbiterKeepsItsOrder : Prop :=
  ∀ s : State, s.part.taking → s.part.station.sending ≠ none →
    let p := s.part.station
    let left := fun q : StationPort =>
      exec (.transmissionEnd .station) s = .next { s with part := ({ s.part with station := q } : Part).closed }
    (∀ f l, p.replies = f :: l → left { p with replies := l, sending := some f }) ∧
    (p.replies = [] →
      (∀ x, p.power = some x →
        left { p with
          power := none
          sending := some
            { dst := 24, src := 0, kind := 5,
              payload :=
                [BitVec.ofNat 8 (min x s.part.licensedNow / 256), BitVec.ofNat 8 (min x s.part.licensedNow)] } }) ∧
      (p.power = none →
        (∀ f, p.monitor = some f → left { p with monitor := none, sending := some f }) ∧
        (p.monitor = none →
          (p.queue = [] → left { p with sending := none }) ∧
          (∀ x l, p.queue = x :: l →
            let power := x.frame.kind = 5 ∧ x.frame.dst = 24
            let withdrawn := s.part.ramp.inhibit = true ∨ x.rampSince = true ∨
              s.part.licensedNow < 256 * (x.frame.payload.getD 0 0).toNat + (x.frame.payload.getD 1 0).toNat
            (¬(power ∧ withdrawn) → left { p with queue := l, sending := some x.frame }) ∧
            (power ∧ withdrawn → left { p with queue := l, sending := some (refusal x.frame 1) })))))

/-- R172, R173, R109: at the end of a transmission of the Field Port its arbiter takes BLOCK_START, else the part's
ELEM_CMD frames in order, else the field-bound queue. A contactor frame is sent only with INHIBIT asserted and QUIET
holding: PART frames that fail the test, or whose command has ended, are withdrawn with their commands left in flight;
forwarded station frames are withdrawn with their commands removed and REFUSED sent, and the next frame is chosen. After
every end of a transmission an ELEM_CMD in transmission that addresses a contactor implies the guard, for waiting PART
frames that ask what their element can do. The mark that ties a queued station frame to its command is that of log entry
27. -/
def Obligations.FieldArbiterGuardsTheContactors : Prop :=
  ∀ s : State, s.part.taking → s.part.field.sending ≠ none →
    let p := s.part.field
    let left := fun q : Part => exec (.transmissionEnd .field) s = .next { s with part := q.closed }
    let guard := s.part.ramp.inhibit = true ∧ s.part.table.quiet = true
    let sendable := fun c : PartFrame =>
      (∃ k, s.part.elems[c.elem].command = some k ∧ k.origin = .part) ∧ (guard ∨ ∃ n, c.order = .position n)
    let contactor := fun f : Frame => ∃ e, s.part.addressed f = some e ∧ s.part.bank.elemKind e = .contactor
    let withdrawn := fun (q : Part) (y : FieldItem) =>
      (match y.owner with
        | some e => { q with elems := q.elems.set e.val { q.elems[e] with command := none } }
        | none => q).replied (refusal y.frame (if s.part.ramp.inhibit = true then 3 else 1))
    (∀ i, p.blockStart = some i →
      left { s.part with
        field :=
          { p with
            blockStart := none
            sending := some
              { dst := 31, src := 0, kind := 1,
                payload := [BitVec.ofNat 8 (i.toNat / 256), BitVec.ofNat 8 i.toNat] } } }) ∧
    (p.blockStart = none →
      (∀ pre c post, p.commands = pre ++ c :: post → (∀ y ∈ pre, ¬sendable y) → sendable c →
        left { s.part with field := { p with commands := post, sending := some c.frame } }) ∧
      ((∀ y ∈ p.commands, ¬sendable y) →
        (∀ pre x post, p.queue = pre ++ x :: post → (∀ y ∈ pre, contactor y.frame ∧ ¬guard) →
          ¬contactor x.frame ∨ guard →
          left (pre.foldl withdrawn { s.part with
            field := { p with commands := [], queue := post, sending := some x.frame } })) ∧
        ((∀ y ∈ p.queue, contactor y.frame ∧ ¬guard) →
          left (p.queue.foldl withdrawn { s.part with
            field := { p with commands := [], queue := [], sending := none } })))) ∧
    (∀ (t : State) (f : Frame), exec (.transmissionEnd .field) s = .next t → t.part.field.sending = some f →
      (∀ c ∈ p.commands, (∃ n, c.order = .position n) → ¬contactor c.frame) → contactor f → guard)

/-! ### Clock, schedule and lines -/

/-- R180, R181, R182, R189: a TIME frame. Valid fields set the clock and restart the one-second timer, and the schedule
is evaluated (stated disabled, where the evaluation clears the owed flag and raises nothing); an invalid one raises
CLOCK_INVALID and leaves the clock. R180: the one-second timer of a SET clock advances it by one second and runs on for
1000 ms from its expiry, with no evaluation in the same minute, and with one at a new minute (stated disabled). Past 31
December 2099 the clock is UNSET, CLOCK_INVALID is recorded, and the evaluation finds no in-force pattern and, disabled,
clears the owed flag. R180: the advance keeps a valid date valid up to the end of 2099, moves the time of day on by one
second, and changes the day exactly at midnight. The uptime at an expiry and the next one are those of log entries 3 and
32. -/
def Obligations.ClockIsSetAndAdvances : Prop :=
  (∀ (src : Byte) (payload : List Byte) (s : State), s.part.taking →
    let b := fun k => (payload.getD k 0).toNat
    let c : Calendar :=
      { year := 256 * b 0 + b 1, month := b 2, day := b 3, hour := b 4, minute := b 5, second := b 6 }
    let length := if c.month = 2 then (if c.year % 4 = 0 then 29 else 28)
      else if c.month = 4 ∨ c.month = 6 ∨ c.month = 9 ∨ c.month = 11 then 30 else 31
    let valid := payload.length = 7 ∧ 2000 ≤ c.year ∧ c.year ≤ 2099 ∧ 1 ≤ c.month ∧ c.month ≤ 12 ∧ 1 ≤ c.day ∧
      c.day ≤ length ∧ c.hour ≤ 23 ∧ c.minute ≤ 59 ∧ c.second ≤ 59
    (valid → s.part.bank.scheduleEnable = false →
      exec (.time src payload) s = .next
        { s with
          part := ({ s.part.stationHeard with
            clock := { time := some c, second := some (s.part.uptime + 1000) }
            sched := { s.part.sched with inForce := s.part.tables.mem.inForce c, owed := false } } : Part).closed }) ∧
    (¬valid → s.part.room .clockInvalid .nothing →
      exec (.time src payload) s = .next
        { s with part := (s.part.stationHeard.recorded .clockInvalid .nothing .d).closed })) ∧
  (∀ (c : Calendar) (d : Uptime) (s : State), s.part.taking →
    s.part.clock.time = some c → s.part.clock.second = some d →
    let p := s.part.atExpiry d
    (c.tick.year ≤ 2099 → c.tick.minute = c.minute →
      exec .clockSecond s = .next
        { s with part := ({ p with clock := { time := some c.tick, second := some (d + 1000) } } : Part).closed }) ∧
    (c.tick.year ≤ 2099 → c.tick.minute ≠ c.minute → s.part.bank.scheduleEnable = false →
      exec .clockSecond s = .next
        { s with
          part := ({ p with
            clock := { time := some c.tick, second := some (d + 1000) }
            sched := { s.part.sched with inForce := s.part.tables.mem.inForce c.tick, owed := false } } :
            Part).closed }) ∧
    (2099 < c.tick.year → s.part.room .clockInvalid .nothing →
      exec .clockSecond s = .next
        { s with
          part := (({ p with
            clock := { time := none, second := none }
            sched :=
              { s.part.sched with
                inForce := none
                owed := if s.part.bank.scheduleEnable = true then s.part.sched.owed else false } } :
            Part).recorded .clockInvalid .nothing .d).closed })) ∧
  (∀ c : Calendar, c.valid = true →
    (c.tick.valid = true ∨ c.tick = { year := 2100, month := 1, day := 1, hour := 0, minute := 0, second := 0 }) ∧
    3600 * c.tick.hour + 60 * c.tick.minute + c.tick.second =
      (3600 * c.hour + 60 * c.minute + c.second + 1) % 86400 ∧
    ((c.tick.year, c.tick.month, c.tick.day) = (c.year, c.month, c.day) ↔
      ¬(c.hour = 23 ∧ c.minute = 59 ∧ c.second = 59)))

/-- R181: the in-force pattern of a time is that of the used transition of the month with the largest minute at or
below the present one, the higher pattern id among equal minutes; with none, that of the latest transition of the
month of the day before; with none there, NONE. R181, R182, R89: an evaluation. Disabled, it clears the owed flag and
raises nothing; enabled, an in-force pattern different from the last raised one is owed with LOCAL asserted, and
otherwise raised: while CHANGING with an empty slot it waits there. R74, R75, R77: in STOPPED or IN_PATTERN, with TX_TRIP
released and no bank adopted, a defined and reachable pattern starts a change of source SCHEDULE, and another is dropped,
with REQUEST_DROPPED recorded and ANY_OVERRUN set, as every one is in HALTED. An evaluation that a promotion left to be
taken is no longer due (log entry 11). -/
def Obligations.ScheduleRaisesTheInForcePattern : Prop :=
  (∀ (m : Memory) (c : Calendar),
    let now := 60 * c.hour + c.minute
    let today := m.transitions c.month
    let before := m.transitions
      (if 1 < c.day then c.month else if c.month = 1 then 12 else c.month - 1)
    let deciding := fun (l : List (Nat × Pat)) (limit : Nat) (p : Pat) =>
      ∃ t, (t, p) ∈ l ∧ t ≤ limit ∧ ∀ x ∈ l, x.1 ≤ limit → x.1 < t ∨ (x.1 = t ∧ x.2 ≤ p)
    ((∃ x ∈ today, x.1 ≤ now) → ∃ p, m.inForce c = some p ∧ deciding today now p) ∧
    ((∀ x ∈ today, now < x.1) → before ≠ [] → ∃ p, m.inForce c = some p ∧ deciding before 1439 p) ∧
    ((∀ x ∈ today, now < x.1) → before = [] → m.inForce c = none)) ∧
  (∀ s : State, s.part.held = false →
    let found := match s.part.clock.time with
      | none => none
      | some c => s.part.tables.mem.inForce c
    let sched := { s.part.sched with inForce := found, evalDue := false }
    let left := fun q : Part => exec .scheduleEvaluation s = .next { s with part := q.closed }
    (s.part.bank.scheduleEnable = false → left { s.part with sched := { sched with owed := false } }) ∧
    (s.part.bank.scheduleEnable = true →
      (found = none ∨ found = s.part.sched.lastRaised → left { s.part with sched := sched }) ∧
      (∀ p, found = some p → s.part.sched.lastRaised ≠ some p →
        (s.part.lines.localOn = true →
          left { s.part with sched := { sched with owed := true, lastRaised := some p } }) ∧
        (∀ c, s.part.lines.localOn = false → s.part.seq.mode = .changing c → s.part.seq.slot = none →
          left { s.part with
            sched := { sched with lastRaised := some p }
            seq := { s.part.seq with slot := some { source := .schedule, target := some p } } }) ∧
        (s.part.lines.localOn = false → s.part.seq.mode ≠ .halted →
          s.part.seq.mode = .stopped ∨ s.part.seq.mode = .inPattern → ¬s.part.adopts →
          s.part.lines.txTrip = false → s.part.bank.patDefined p = true → s.part.reachable p = true →
          ∃ t, exec .scheduleEvaluation s = .next t ∧ t.pending = s.pending ∧
            Part.Started s.part t.part .schedule (some p) false ∧
            t.part.sched = { sched with lastRaised := some p }) ∧
        (s.part.lines.localOn = false →
          s.part.seq.mode = .halted ∨
            ((s.part.seq.mode = .stopped ∨ s.part.seq.mode = .inPattern) ∧ ¬s.part.adopts ∧
              (s.part.bank.patDefined p = false ∨ s.part.reachable p = false)) →
          s.part.room .requestDropped (.request .schedule) →
          left (({ s.part with
            sched := { sched with lastRaised := some p }
            seq := { s.part.seq with anyOverrun := true } } :
              Part).recorded .requestDropped (.request .schedule) .d)))))

/-- R147: an assertion of TX_TRIP raises TX_TRIP and changes nothing in the Ramp Engine itself. In STOPPED, HALTED and
RAMP_DOWN to PRESETTING it has class D and is recorded only. R95, R139, R160: in IN_PATTERN it has class C: NORMAL
becomes DEGRADED with a ramp to the degraded level held to the licence, DEGRADED stays, the restore count is 0. R158,
R92: in RAMP_TO_TRIM to RAMP_FINAL it has class B and turns a change of attribute NORMAL or RESEAT from a defined
pattern back. Where that reversion has no contactor to move and no preset to wait for, it enters RAMP_TO_TRIM at once,
which raises the held trip again: a second failure in the same event by log entry 14. R159: a second failure, there or
at an assertion during a reversion, leaves the array IN_PATTERN DEGRADED with REVERT_INCOMPLETE recorded, and the entry
raises the held trip with class C (R154). Stated there with no request waiting. R155, R96: the release ends the record,
which sets the restore count to 0 where it was of class C in IN_PATTERN, and with INHIBIT released hands over a POWER
frame carrying L. A level that does not change is no event. -/
def Obligations.TxTripLineRaisesAndEnds : Prop :=
  (∀ s : State, s.part.taking →
    let line := fun b => { s.part.lines with txTrip := b }
    (s.part.lines.txTrip = true → exec .txTripAssert s = .next s) ∧
    (s.part.lines.txTrip = false → exec .txTripRelease s = .next s) ∧
    (s.part.lines.txTrip = false → s.part.room .txTrip .nothing →
      let tripped := { s.part with lines := line true }
      (s.part.seq.mode = .stopped ∨ s.part.seq.mode = .halted ∨
          (∃ c, s.part.seq.mode = .changing c ∧
            (c.phase = .rampDown ∨ c.phase = .muting ∨ c.phase = .switching ∨ c.phase = .presetting)) →
        exec .txTripAssert s = .next { s with part := (tripped.recorded .txTrip .nothing .d).closed }) ∧
      (s.part.seq.mode = .inPattern → s.part.seq.sub = .degraded →
        exec .txTripAssert s = .next
          { s with
            part := (({ tripped with seq := { s.part.seq with restore := 0 } } :
              Part).recorded .txTrip .nothing .c).closed }) ∧
      (∀ p, s.part.seq.mode = .inPattern → s.part.seq.sub = .normal → s.part.seq.active = some p →
        ∃ t, exec .txTripAssert s = .next t ∧ t.pending = s.pending ∧
          t.part.ramp.target = min (s.part.bank.degradedLevel p) (s.part.tables.mem.licensedLevel p) ∧
          t.part.ramp.level = s.part.ramp.level ∧ t.part.ramp.inhibit = s.part.ramp.inhibit ∧
          t.part = { tripped with
            raised := []
            pins := { fault := true, inPattern := false }
            seq := { s.part.seq with sub := .degraded, restore := 0 }
            ramp := t.part.ramp
            faults := (tripped.recorded .txTrip .nothing .c).faults
            station := t.part.station })) ∧
    (s.part.lines.txTrip = true → s.part.stationBusy →
      exec .txTripRelease s = .next
        { s with
          part := ({ s.part with
            lines := line false
            faults :=
              { s.part.faults with
                records := s.part.faults.records.map fun r : FaultRecord =>
                  if r.active = true ∧ r.kind = .txTrip ∧ r.object = .nothing then { r with active := false }
                  else r }
            seq :=
              if s.part.seq.mode = .inPattern ∧
                  ∃ r ∈ s.part.faults.records, (r.active = true ∧ r.kind = .txTrip ∧ r.object = .nothing) ∧ r.cls = .c then
                { s.part.seq with restore := 0 }
              else s.part.seq
            station :=
              { s.part.station with
                power := if s.part.ramp.inhibit = true then s.part.station.power else some s.part.ramp.level } } :
            Part).closed })) ∧
  (∀ (c : Change) (s : State), s.part.taking → s.part.lines.txTrip = false → s.part.room .txTrip .nothing →
    s.part.seq.mode = .changing c →
    c.phase = .rampToTrim ∨ c.phase = .trimming ∨ c.phase = .verifying ∨ c.phase = .rampFinal →
    let tripped := { s.part with lines := { s.part.lines with txTrip := true } }
    let record := fun (t : State) (cl : FaultClass) =>
      ∃ r ∈ t.part.faults.records, r.kind = .txTrip ∧ r.cls = cl ∧ r.active = true ∧ r.object = .nothing ∧
        r.situation = .changing c.phase ∧ r.pats = some (c.fromPat, c.toPat)
    let givenUp := fun (t : State) (q : Pat) =>
      t.part.lines = tripped.lines ∧ record t .c ∧
      t.part.seq =
        { s.part.seq with
          mode := .inPattern, sub := .degraded, active := some q, ootRun := 0, ootRaised := false, restore := 0 } ∧
      t.part.ramp.target = min (s.part.bank.degradedLevel q) (s.part.tables.mem.licensedLevel q) ∧
      ∃ r ∈ t.part.faults.records, r.kind = .revertIncomplete ∧ r.cls = .c ∧ r.active = true ∧ r.object = .nothing
    let roomToGiveUp := s.part.seq.slot = none ∧ s.part.faults.records.length ≤ 12 ∧
      ∀ r ∈ s.part.faults.records, ¬(r.active = true ∧ r.kind = .revertIncomplete ∧ r.object = .nothing)
    (∀ q, c.kind ≠ .revert → c.fromPat = some q → s.part.bank.patDefined q = true →
      let waits := s.part.movesNeeded (some q) = true ∨
        (∃ (e : Elem) (k : Command), s.part.elems[e].command = some k ∧ k.preset = true) ∨
        ∃ x ∈ s.part.bank.actuatorEntries q, s.part.presetNeeded x = true
      (waits →
        ∃ t, exec .txTripAssert s = .next t ∧ t.pending = s.pending ∧
          Part.Reverted tripped t.part c (.fault .txTrip) ∧ record t .b ∧ t.part.uptime = s.part.uptime) ∧
      (¬waits → roomToGiveUp →
        ∃ t, exec .txTripAssert s = .next t ∧ t.pending = s.pending ∧ givenUp t q ∧
          t.part.ramp.level = min s.part.ramp.level (s.part.tables.mem.licensedLevel q) ∧
          t.part.ramp.inhibit = false)) ∧
    (∀ q, c.kind = .revert → c.toPat = some q → roomToGiveUp →
      ∃ t, exec .txTripAssert s = .next t ∧ t.pending = s.pending ∧ givenUp t q ∧
        t.part.ramp.level = s.part.ramp.level ∧ t.part.ramp.inhibit = s.part.ramp.inhibit))

/-- R183, R182, R181: an assertion of LOCAL changes the line alone. A release is an evaluation: with the owed flag set
the flag is cleared, and with the schedule disabled or the in-force pattern active nothing is raised; another in-force
pattern, defined and reachable, in STOPPED or IN_PATTERN, starts a change of source SCHEDULE. R183, R89, R75, R77: rising
edges of PANEL_GO and PANEL_STOP. With LOCAL released they are ignored. With LOCAL asserted they raise a PANEL request:
while CHANGING with an empty slot it waits there; in STOPPED or IN_PATTERN a defined and reachable pattern starts a
change, another is dropped, and a stop in IN_PATTERN with a level above 0 starts one toward no pattern; in HALTED it is
dropped, with REQUEST_DROPPED recorded and ANY_OVERRUN set. The starts are stated with TX_TRIP released and no bank
adopted. A release with the owed flag set is read as log entry 28 says. -/
def Obligations.LocalAndPanelLinesAct : Prop :=
  (∀ s : State, s.part.taking →
    let line := fun b => { s.part.lines with localOn := b }
    let found := match s.part.clock.time with
      | none => none
      | some c => s.part.tables.mem.inForce c
    exec .localAssert s = .next { s with part := ({ s.part with lines := line true } : Part).closed } ∧
    (s.part.lines.localOn = false → exec .localRelease s = .next s) ∧
    (s.part.lines.localOn = true →
      s.part.bank.scheduleEnable = false ∨ (s.part.sched.owed = true ∧ (found = none ∨ found = s.part.seq.active)) →
      exec .localRelease s = .next
        { s with
          part := ({ s.part with
            lines := line false
            sched := { s.part.sched with inForce := found, owed := false } } : Part).closed }) ∧
    (∀ p, s.part.lines.localOn = true → s.part.bank.scheduleEnable = true → s.part.sched.owed = true →
      found = some p → s.part.seq.active ≠ some p → s.part.seq.mode = .stopped ∨ s.part.seq.mode = .inPattern →
      ¬s.part.adopts → s.part.lines.txTrip = false → s.part.bank.patDefined p = true → s.part.reachable p = true →
      ∃ t, exec .localRelease s = .next t ∧ t.pending = s.pending ∧
        Part.Started { s.part with lines := line false } t.part .schedule (some p) false ∧
        t.part.sched = { s.part.sched with inForce := found, owed := false, lastRaised := some p })) ∧
  (∀ (sel : Pat) (s : State), s.part.taking →
    let sampled := { s.part with lines := { s.part.lines with panelSel := sel } }
    let placed := fun x : Option Pat =>
      { s.part.seq with slot := some { source := .panel, target := x } }
    let dropped := fun p : Part =>
      (({ p with seq := { s.part.seq with anyOverrun := true } } :
        Part).recorded .requestDropped (.request .panel) .d).closed
    (s.part.lines.localOn = false →
      exec (.panelGo sel) s = .next { s with part := sampled.closed } ∧
      exec .panelStop s = .next { s with part := s.part.closed }) ∧
    (s.part.lines.localOn = true →
      (∀ c, s.part.seq.mode = .changing c → s.part.seq.slot = none →
        exec (.panelGo sel) s = .next { s with part := ({ sampled with seq := placed (some sel) } : Part).closed } ∧
        exec .panelStop s = .next { s with part := ({ s.part with seq := placed none } : Part).closed }) ∧
      (s.part.seq.mode = .halted → s.part.room .requestDropped (.request .panel) →
        exec (.panelGo sel) s = .next { s with part := dropped sampled } ∧
        exec .panelStop s = .next { s with part := dropped s.part }) ∧
      (s.part.seq.mode = .stopped ∨ s.part.seq.mode = .inPattern → ¬s.part.adopts →
        (s.part.lines.txTrip = false → s.part.bank.patDefined sel = true → s.part.reachable sel = true →
          ∃ t, exec (.panelGo sel) s = .next t ∧ t.pending = s.pending ∧
            Part.Started sampled t.part .panel (some sel) false ∧ t.part.sched = s.part.sched) ∧
        (s.part.bank.patDefined sel = false ∨ s.part.reachable sel = false →
          s.part.room .requestDropped (.request .panel) →
          exec (.panelGo sel) s = .next { s with part := dropped sampled }) ∧
        (∀ p, s.part.seq.active = some p → 0 < s.part.ramp.level →
          s.part.ramp.level ≤ s.part.tables.mem.licensedLevel p →
          ∃ t, exec .panelStop s = .next t ∧ t.pending = s.pending ∧
            Part.Started s.part t.part .panel none false ∧ t.part.sched = s.part.sched))))

/-! ### What every step keeps -/

/-- R22, R152, R170, R171: the Pairing Store holds at most 8 entries, the fault list at most 16 records, each forward
queue and the reply queue at most 8 frames: every step keeps it. R152: no two ACTIVE records share both kind and
object: every step keeps it. R22: the Pairing Store has at most one entry for a block index (log entry 49), no entry holds
a tower twice or one it has combined, and none holds or has combined its own reference tower: every step keeps it. -/
def Obligations.EveryStepKeepsTheBoundedLists : Prop :=
  (∀ s t : State, s.part.Bounded → step s = .next t → t.part.Bounded) ∧
  (∀ s t : State, s.part.faults.distinct → step s = .next t → t.part.faults.distinct) ∧
  (∀ s t : State, s.part.StoreSound → step s = .next t → t.part.StoreSound)

/-- R36, R10: QUIET holds exactly while every installed tower's quiet run is 2 or more, and Table Memory keeps its
canonical form: every step keeps both. R9, R182: an evaluation is due only after a promotion, which leaves the staged bank
CLEAN, and before any other event: every step keeps it. -/
def Obligations.EveryStepKeepsQuietAndMemory : Prop :=
  (∀ s t : State, s.part.QuietSound → step s = .next t → t.part.QuietSound) ∧
  (∀ s t : State, s.part.DueSound → step s = .next t → t.part.DueSound)

/-- R145: INHIBIT is asserted throughout STOPPED, HALTED, MUTING and SWITCHING and released throughout RAMP_TO_TRIM to
RAMP_FINAL and IN_PATTERN; while it is asserted L and T are 0 and no ramp is in progress. R140, R149: a POWER frame of the
part's that waits carries L. R8: a part held in reset is STOPPED. Every step keeps this. -/
def Obligations.EveryStepKeepsInhibitSound : Prop :=
  ∀ s t : State, s.part.InhibitSound → step s = .next t → t.part.InhibitSound

/-- R20, R178, R8: the block index is changed by the Block Timer's expiry and by resets alone. R5, R2: the licence
region is changed by an accepted WRITE_BLOCK to it and by a cold reset alone: through every other command, a warm
reset and a promotion among them, each of its bytes reads as before. -/
def Obligations.OnlyTheirOwnCommandsChangeIndexAndLicence : Prop :=
  (∀ (c : Instr) (s t : State), c.wf = true → exec c s = .next t →
    (match c with
      | .coldReset _ | .reset _ _ | .blockTimerExpiry => True
      | _ => t.part.timer = s.part.timer)) ∧
  (∀ (c : Instr) (s t : State), c.wf = true → s.part.tables.mem.wf = true → exec c s = .next t →
    (match c with
      | .coldReset _ => True
      | .writeBlock _ _ n _ _ => 3 < n.toNat → ∀ a, a < 256 → t.part.tables.mem.read a = s.part.tables.mem.read a
      | _ => ∀ a, a < 256 → t.part.tables.mem.read a = s.part.tables.mem.read a))
end

