-- ==== Sys2Proof/Laws/State.lean ====
section
/-! SUPPORT. Each update of one field of `Part`, read field by field. -/

namespace Sys2Proof.Machine

@[simp] theorem Part.setHeld_held (s : Part) (x : Bool) : (s.setHeld x).held = x := rfl
@[simp] theorem Part.setHeld_lines (s : Part) (x : Bool) : (s.setHeld x).lines = s.lines := rfl
@[simp] theorem Part.setHeld_pins (s : Part) (x : Bool) : (s.setHeld x).pins = s.pins := rfl
@[simp] theorem Part.setHeld_uptime (s : Part) (x : Bool) : (s.setHeld x).uptime = s.uptime := rfl
@[simp] theorem Part.setHeld_tables (s : Part) (x : Bool) : (s.setHeld x).tables = s.tables := rfl
@[simp] theorem Part.setHeld_timer (s : Part) (x : Bool) : (s.setHeld x).timer = s.timer := rfl
@[simp] theorem Part.setHeld_store (s : Part) (x : Bool) : (s.setHeld x).store = s.store := rfl
@[simp] theorem Part.setHeld_corr (s : Part) (x : Bool) : (s.setHeld x).corr = s.corr := rfl
@[simp] theorem Part.setHeld_table (s : Part) (x : Bool) : (s.setHeld x).table = s.table := rfl
@[simp] theorem Part.setHeld_round (s : Part) (x : Bool) : (s.setHeld x).round = s.round := rfl
@[simp] theorem Part.setHeld_seq (s : Part) (x : Bool) : (s.setHeld x).seq = s.seq := rfl
@[simp] theorem Part.setHeld_elems (s : Part) (x : Bool) : (s.setHeld x).elems = s.elems := rfl
@[simp] theorem Part.setHeld_walk (s : Part) (x : Bool) : (s.setHeld x).walk = s.walk := rfl
@[simp] theorem Part.setHeld_trim (s : Part) (x : Bool) : (s.setHeld x).trim = s.trim := rfl
@[simp] theorem Part.setHeld_ramp (s : Part) (x : Bool) : (s.setHeld x).ramp = s.ramp := rfl
@[simp] theorem Part.setHeld_faults (s : Part) (x : Bool) : (s.setHeld x).faults = s.faults := rfl
@[simp] theorem Part.setHeld_field (s : Part) (x : Bool) : (s.setHeld x).field = s.field := rfl
@[simp] theorem Part.setHeld_station (s : Part) (x : Bool) : (s.setHeld x).station = s.station := rfl
@[simp] theorem Part.setHeld_clock (s : Part) (x : Bool) : (s.setHeld x).clock = s.clock := rfl
@[simp] theorem Part.setHeld_sched (s : Part) (x : Bool) : (s.setHeld x).sched = s.sched := rfl
@[simp] theorem Part.setHeld_raised (s : Part) (x : Bool) : (s.setHeld x).raised = s.raised := rfl
@[simp] theorem Part.setHeld_free (s : Part) (x : Bool) : (s.setHeld x).free = s.free := rfl

@[simp] theorem Part.setLines_held (s : Part) (x : Lines) : (s.setLines x).held = s.held := rfl
@[simp] theorem Part.setLines_lines (s : Part) (x : Lines) : (s.setLines x).lines = x := rfl
@[simp] theorem Part.setLines_pins (s : Part) (x : Lines) : (s.setLines x).pins = s.pins := rfl
@[simp] theorem Part.setLines_uptime (s : Part) (x : Lines) : (s.setLines x).uptime = s.uptime := rfl
@[simp] theorem Part.setLines_tables (s : Part) (x : Lines) : (s.setLines x).tables = s.tables := rfl
@[simp] theorem Part.setLines_timer (s : Part) (x : Lines) : (s.setLines x).timer = s.timer := rfl
@[simp] theorem Part.setLines_store (s : Part) (x : Lines) : (s.setLines x).store = s.store := rfl
@[simp] theorem Part.setLines_corr (s : Part) (x : Lines) : (s.setLines x).corr = s.corr := rfl
@[simp] theorem Part.setLines_table (s : Part) (x : Lines) : (s.setLines x).table = s.table := rfl
@[simp] theorem Part.setLines_round (s : Part) (x : Lines) : (s.setLines x).round = s.round := rfl
@[simp] theorem Part.setLines_seq (s : Part) (x : Lines) : (s.setLines x).seq = s.seq := rfl
@[simp] theorem Part.setLines_elems (s : Part) (x : Lines) : (s.setLines x).elems = s.elems := rfl
@[simp] theorem Part.setLines_walk (s : Part) (x : Lines) : (s.setLines x).walk = s.walk := rfl
@[simp] theorem Part.setLines_trim (s : Part) (x : Lines) : (s.setLines x).trim = s.trim := rfl
@[simp] theorem Part.setLines_ramp (s : Part) (x : Lines) : (s.setLines x).ramp = s.ramp := rfl
@[simp] theorem Part.setLines_faults (s : Part) (x : Lines) : (s.setLines x).faults = s.faults := rfl
@[simp] theorem Part.setLines_field (s : Part) (x : Lines) : (s.setLines x).field = s.field := rfl
@[simp] theorem Part.setLines_station (s : Part) (x : Lines) : (s.setLines x).station = s.station := rfl
@[simp] theorem Part.setLines_clock (s : Part) (x : Lines) : (s.setLines x).clock = s.clock := rfl
@[simp] theorem Part.setLines_sched (s : Part) (x : Lines) : (s.setLines x).sched = s.sched := rfl
@[simp] theorem Part.setLines_raised (s : Part) (x : Lines) : (s.setLines x).raised = s.raised := rfl
@[simp] theorem Part.setLines_free (s : Part) (x : Lines) : (s.setLines x).free = s.free := rfl

@[simp] theorem Part.setPins_held (s : Part) (x : Pins) : (s.setPins x).held = s.held := rfl
@[simp] theorem Part.setPins_lines (s : Part) (x : Pins) : (s.setPins x).lines = s.lines := rfl
@[simp] theorem Part.setPins_pins (s : Part) (x : Pins) : (s.setPins x).pins = x := rfl
@[simp] theorem Part.setPins_uptime (s : Part) (x : Pins) : (s.setPins x).uptime = s.uptime := rfl
@[simp] theorem Part.setPins_tables (s : Part) (x : Pins) : (s.setPins x).tables = s.tables := rfl
@[simp] theorem Part.setPins_timer (s : Part) (x : Pins) : (s.setPins x).timer = s.timer := rfl
@[simp] theorem Part.setPins_store (s : Part) (x : Pins) : (s.setPins x).store = s.store := rfl
@[simp] theorem Part.setPins_corr (s : Part) (x : Pins) : (s.setPins x).corr = s.corr := rfl
@[simp] theorem Part.setPins_table (s : Part) (x : Pins) : (s.setPins x).table = s.table := rfl
@[simp] theorem Part.setPins_round (s : Part) (x : Pins) : (s.setPins x).round = s.round := rfl
@[simp] theorem Part.setPins_seq (s : Part) (x : Pins) : (s.setPins x).seq = s.seq := rfl
@[simp] theorem Part.setPins_elems (s : Part) (x : Pins) : (s.setPins x).elems = s.elems := rfl
@[simp] theorem Part.setPins_walk (s : Part) (x : Pins) : (s.setPins x).walk = s.walk := rfl
@[simp] theorem Part.setPins_trim (s : Part) (x : Pins) : (s.setPins x).trim = s.trim := rfl
@[simp] theorem Part.setPins_ramp (s : Part) (x : Pins) : (s.setPins x).ramp = s.ramp := rfl
@[simp] theorem Part.setPins_faults (s : Part) (x : Pins) : (s.setPins x).faults = s.faults := rfl
@[simp] theorem Part.setPins_field (s : Part) (x : Pins) : (s.setPins x).field = s.field := rfl
@[simp] theorem Part.setPins_station (s : Part) (x : Pins) : (s.setPins x).station = s.station := rfl
@[simp] theorem Part.setPins_clock (s : Part) (x : Pins) : (s.setPins x).clock = s.clock := rfl
@[simp] theorem Part.setPins_sched (s : Part) (x : Pins) : (s.setPins x).sched = s.sched := rfl
@[simp] theorem Part.setPins_raised (s : Part) (x : Pins) : (s.setPins x).raised = s.raised := rfl
@[simp] theorem Part.setPins_free (s : Part) (x : Pins) : (s.setPins x).free = s.free := rfl

@[simp] theorem Part.setUptime_held (s : Part) (x : Uptime) : (s.setUptime x).held = s.held := rfl
@[simp] theorem Part.setUptime_lines (s : Part) (x : Uptime) : (s.setUptime x).lines = s.lines := rfl
@[simp] theorem Part.setUptime_pins (s : Part) (x : Uptime) : (s.setUptime x).pins = s.pins := rfl
@[simp] theorem Part.setUptime_uptime (s : Part) (x : Uptime) : (s.setUptime x).uptime = x := rfl
@[simp] theorem Part.setUptime_tables (s : Part) (x : Uptime) : (s.setUptime x).tables = s.tables := rfl
@[simp] theorem Part.setUptime_timer (s : Part) (x : Uptime) : (s.setUptime x).timer = s.timer := rfl
@[simp] theorem Part.setUptime_store (s : Part) (x : Uptime) : (s.setUptime x).store = s.store := rfl
@[simp] theorem Part.setUptime_corr (s : Part) (x : Uptime) : (s.setUptime x).corr = s.corr := rfl
@[simp] theorem Part.setUptime_table (s : Part) (x : Uptime) : (s.setUptime x).table = s.table := rfl
@[simp] theorem Part.setUptime_round (s : Part) (x : Uptime) : (s.setUptime x).round = s.round := rfl
@[simp] theorem Part.setUptime_seq (s : Part) (x : Uptime) : (s.setUptime x).seq = s.seq := rfl
@[simp] theorem Part.setUptime_elems (s : Part) (x : Uptime) : (s.setUptime x).elems = s.elems := rfl
@[simp] theorem Part.setUptime_walk (s : Part) (x : Uptime) : (s.setUptime x).walk = s.walk := rfl
@[simp] theorem Part.setUptime_trim (s : Part) (x : Uptime) : (s.setUptime x).trim = s.trim := rfl
@[simp] theorem Part.setUptime_ramp (s : Part) (x : Uptime) : (s.setUptime x).ramp = s.ramp := rfl
@[simp] theorem Part.setUptime_faults (s : Part) (x : Uptime) : (s.setUptime x).faults = s.faults := rfl
@[simp] theorem Part.setUptime_field (s : Part) (x : Uptime) : (s.setUptime x).field = s.field := rfl
@[simp] theorem Part.setUptime_station (s : Part) (x : Uptime) : (s.setUptime x).station = s.station := rfl
@[simp] theorem Part.setUptime_clock (s : Part) (x : Uptime) : (s.setUptime x).clock = s.clock := rfl
@[simp] theorem Part.setUptime_sched (s : Part) (x : Uptime) : (s.setUptime x).sched = s.sched := rfl
@[simp] theorem Part.setUptime_raised (s : Part) (x : Uptime) : (s.setUptime x).raised = s.raised := rfl
@[simp] theorem Part.setUptime_free (s : Part) (x : Uptime) : (s.setUptime x).free = s.free := rfl

@[simp] theorem Part.setTables_held (s : Part) (x : Tables) : (s.setTables x).held = s.held := rfl
@[simp] theorem Part.setTables_lines (s : Part) (x : Tables) : (s.setTables x).lines = s.lines := rfl
@[simp] theorem Part.setTables_pins (s : Part) (x : Tables) : (s.setTables x).pins = s.pins := rfl
@[simp] theorem Part.setTables_uptime (s : Part) (x : Tables) : (s.setTables x).uptime = s.uptime := rfl
@[simp] theorem Part.setTables_tables (s : Part) (x : Tables) : (s.setTables x).tables = x := rfl
@[simp] theorem Part.setTables_timer (s : Part) (x : Tables) : (s.setTables x).timer = s.timer := rfl
@[simp] theorem Part.setTables_store (s : Part) (x : Tables) : (s.setTables x).store = s.store := rfl
@[simp] theorem Part.setTables_corr (s : Part) (x : Tables) : (s.setTables x).corr = s.corr := rfl
@[simp] theorem Part.setTables_table (s : Part) (x : Tables) : (s.setTables x).table = s.table := rfl
@[simp] theorem Part.setTables_round (s : Part) (x : Tables) : (s.setTables x).round = s.round := rfl
@[simp] theorem Part.setTables_seq (s : Part) (x : Tables) : (s.setTables x).seq = s.seq := rfl
@[simp] theorem Part.setTables_elems (s : Part) (x : Tables) : (s.setTables x).elems = s.elems := rfl
@[simp] theorem Part.setTables_walk (s : Part) (x : Tables) : (s.setTables x).walk = s.walk := rfl
@[simp] theorem Part.setTables_trim (s : Part) (x : Tables) : (s.setTables x).trim = s.trim := rfl
@[simp] theorem Part.setTables_ramp (s : Part) (x : Tables) : (s.setTables x).ramp = s.ramp := rfl
@[simp] theorem Part.setTables_faults (s : Part) (x : Tables) : (s.setTables x).faults = s.faults := rfl
@[simp] theorem Part.setTables_field (s : Part) (x : Tables) : (s.setTables x).field = s.field := rfl
@[simp] theorem Part.setTables_station (s : Part) (x : Tables) : (s.setTables x).station = s.station := rfl
@[simp] theorem Part.setTables_clock (s : Part) (x : Tables) : (s.setTables x).clock = s.clock := rfl
@[simp] theorem Part.setTables_sched (s : Part) (x : Tables) : (s.setTables x).sched = s.sched := rfl
@[simp] theorem Part.setTables_raised (s : Part) (x : Tables) : (s.setTables x).raised = s.raised := rfl
@[simp] theorem Part.setTables_free (s : Part) (x : Tables) : (s.setTables x).free = s.free := rfl

@[simp] theorem Part.setTimer_held (s : Part) (x : BlockTimer) : (s.setTimer x).held = s.held := rfl
@[simp] theorem Part.setTimer_lines (s : Part) (x : BlockTimer) : (s.setTimer x).lines = s.lines := rfl
@[simp] theorem Part.setTimer_pins (s : Part) (x : BlockTimer) : (s.setTimer x).pins = s.pins := rfl
@[simp] theorem Part.setTimer_uptime (s : Part) (x : BlockTimer) : (s.setTimer x).uptime = s.uptime := rfl
@[simp] theorem Part.setTimer_tables (s : Part) (x : BlockTimer) : (s.setTimer x).tables = s.tables := rfl
@[simp] theorem Part.setTimer_timer (s : Part) (x : BlockTimer) : (s.setTimer x).timer = x := rfl
@[simp] theorem Part.setTimer_store (s : Part) (x : BlockTimer) : (s.setTimer x).store = s.store := rfl
@[simp] theorem Part.setTimer_corr (s : Part) (x : BlockTimer) : (s.setTimer x).corr = s.corr := rfl
@[simp] theorem Part.setTimer_table (s : Part) (x : BlockTimer) : (s.setTimer x).table = s.table := rfl
@[simp] theorem Part.setTimer_round (s : Part) (x : BlockTimer) : (s.setTimer x).round = s.round := rfl
@[simp] theorem Part.setTimer_seq (s : Part) (x : BlockTimer) : (s.setTimer x).seq = s.seq := rfl
@[simp] theorem Part.setTimer_elems (s : Part) (x : BlockTimer) : (s.setTimer x).elems = s.elems := rfl
@[simp] theorem Part.setTimer_walk (s : Part) (x : BlockTimer) : (s.setTimer x).walk = s.walk := rfl
@[simp] theorem Part.setTimer_trim (s : Part) (x : BlockTimer) : (s.setTimer x).trim = s.trim := rfl
@[simp] theorem Part.setTimer_ramp (s : Part) (x : BlockTimer) : (s.setTimer x).ramp = s.ramp := rfl
@[simp] theorem Part.setTimer_faults (s : Part) (x : BlockTimer) : (s.setTimer x).faults = s.faults := rfl
@[simp] theorem Part.setTimer_field (s : Part) (x : BlockTimer) : (s.setTimer x).field = s.field := rfl
@[simp] theorem Part.setTimer_station (s : Part) (x : BlockTimer) : (s.setTimer x).station = s.station := rfl
@[simp] theorem Part.setTimer_clock (s : Part) (x : BlockTimer) : (s.setTimer x).clock = s.clock := rfl
@[simp] theorem Part.setTimer_sched (s : Part) (x : BlockTimer) : (s.setTimer x).sched = s.sched := rfl
@[simp] theorem Part.setTimer_raised (s : Part) (x : BlockTimer) : (s.setTimer x).raised = s.raised := rfl
@[simp] theorem Part.setTimer_free (s : Part) (x : BlockTimer) : (s.setTimer x).free = s.free := rfl

@[simp] theorem Part.setStore_held (s : Part) (x : PairingStore) : (s.setStore x).held = s.held := rfl
@[simp] theorem Part.setStore_lines (s : Part) (x : PairingStore) : (s.setStore x).lines = s.lines := rfl
@[simp] theorem Part.setStore_pins (s : Part) (x : PairingStore) : (s.setStore x).pins = s.pins := rfl
@[simp] theorem Part.setStore_uptime (s : Part) (x : PairingStore) : (s.setStore x).uptime = s.uptime := rfl
@[simp] theorem Part.setStore_tables (s : Part) (x : PairingStore) : (s.setStore x).tables = s.tables := rfl
@[simp] theorem Part.setStore_timer (s : Part) (x : PairingStore) : (s.setStore x).timer = s.timer := rfl
@[simp] theorem Part.setStore_store (s : Part) (x : PairingStore) : (s.setStore x).store = x := rfl
@[simp] theorem Part.setStore_corr (s : Part) (x : PairingStore) : (s.setStore x).corr = s.corr := rfl
@[simp] theorem Part.setStore_table (s : Part) (x : PairingStore) : (s.setStore x).table = s.table := rfl
@[simp] theorem Part.setStore_round (s : Part) (x : PairingStore) : (s.setStore x).round = s.round := rfl
@[simp] theorem Part.setStore_seq (s : Part) (x : PairingStore) : (s.setStore x).seq = s.seq := rfl
@[simp] theorem Part.setStore_elems (s : Part) (x : PairingStore) : (s.setStore x).elems = s.elems := rfl
@[simp] theorem Part.setStore_walk (s : Part) (x : PairingStore) : (s.setStore x).walk = s.walk := rfl
@[simp] theorem Part.setStore_trim (s : Part) (x : PairingStore) : (s.setStore x).trim = s.trim := rfl
@[simp] theorem Part.setStore_ramp (s : Part) (x : PairingStore) : (s.setStore x).ramp = s.ramp := rfl
@[simp] theorem Part.setStore_faults (s : Part) (x : PairingStore) : (s.setStore x).faults = s.faults := rfl
@[simp] theorem Part.setStore_field (s : Part) (x : PairingStore) : (s.setStore x).field = s.field := rfl
@[simp] theorem Part.setStore_station (s : Part) (x : PairingStore) : (s.setStore x).station = s.station := rfl
@[simp] theorem Part.setStore_clock (s : Part) (x : PairingStore) : (s.setStore x).clock = s.clock := rfl
@[simp] theorem Part.setStore_sched (s : Part) (x : PairingStore) : (s.setStore x).sched = s.sched := rfl
@[simp] theorem Part.setStore_raised (s : Part) (x : PairingStore) : (s.setStore x).raised = s.raised := rfl
@[simp] theorem Part.setStore_free (s : Part) (x : PairingStore) : (s.setStore x).free = s.free := rfl

@[simp] theorem Part.setCorr_held (s : Part) (x : Correlator) : (s.setCorr x).held = s.held := rfl
@[simp] theorem Part.setCorr_lines (s : Part) (x : Correlator) : (s.setCorr x).lines = s.lines := rfl
@[simp] theorem Part.setCorr_pins (s : Part) (x : Correlator) : (s.setCorr x).pins = s.pins := rfl
@[simp] theorem Part.setCorr_uptime (s : Part) (x : Correlator) : (s.setCorr x).uptime = s.uptime := rfl
@[simp] theorem Part.setCorr_tables (s : Part) (x : Correlator) : (s.setCorr x).tables = s.tables := rfl
@[simp] theorem Part.setCorr_timer (s : Part) (x : Correlator) : (s.setCorr x).timer = s.timer := rfl
@[simp] theorem Part.setCorr_store (s : Part) (x : Correlator) : (s.setCorr x).store = s.store := rfl
@[simp] theorem Part.setCorr_corr (s : Part) (x : Correlator) : (s.setCorr x).corr = x := rfl
@[simp] theorem Part.setCorr_table (s : Part) (x : Correlator) : (s.setCorr x).table = s.table := rfl
@[simp] theorem Part.setCorr_round (s : Part) (x : Correlator) : (s.setCorr x).round = s.round := rfl
@[simp] theorem Part.setCorr_seq (s : Part) (x : Correlator) : (s.setCorr x).seq = s.seq := rfl
@[simp] theorem Part.setCorr_elems (s : Part) (x : Correlator) : (s.setCorr x).elems = s.elems := rfl
@[simp] theorem Part.setCorr_walk (s : Part) (x : Correlator) : (s.setCorr x).walk = s.walk := rfl
@[simp] theorem Part.setCorr_trim (s : Part) (x : Correlator) : (s.setCorr x).trim = s.trim := rfl
@[simp] theorem Part.setCorr_ramp (s : Part) (x : Correlator) : (s.setCorr x).ramp = s.ramp := rfl
@[simp] theorem Part.setCorr_faults (s : Part) (x : Correlator) : (s.setCorr x).faults = s.faults := rfl
@[simp] theorem Part.setCorr_field (s : Part) (x : Correlator) : (s.setCorr x).field = s.field := rfl
@[simp] theorem Part.setCorr_station (s : Part) (x : Correlator) : (s.setCorr x).station = s.station := rfl
@[simp] theorem Part.setCorr_clock (s : Part) (x : Correlator) : (s.setCorr x).clock = s.clock := rfl
@[simp] theorem Part.setCorr_sched (s : Part) (x : Correlator) : (s.setCorr x).sched = s.sched := rfl
@[simp] theorem Part.setCorr_raised (s : Part) (x : Correlator) : (s.setCorr x).raised = s.raised := rfl
@[simp] theorem Part.setCorr_free (s : Part) (x : Correlator) : (s.setCorr x).free = s.free := rfl

@[simp] theorem Part.setTable_held (s : Part) (x : ReadingTable) : (s.setTable x).held = s.held := rfl
@[simp] theorem Part.setTable_lines (s : Part) (x : ReadingTable) : (s.setTable x).lines = s.lines := rfl
@[simp] theorem Part.setTable_pins (s : Part) (x : ReadingTable) : (s.setTable x).pins = s.pins := rfl
@[simp] theorem Part.setTable_uptime (s : Part) (x : ReadingTable) : (s.setTable x).uptime = s.uptime := rfl
@[simp] theorem Part.setTable_tables (s : Part) (x : ReadingTable) : (s.setTable x).tables = s.tables := rfl
@[simp] theorem Part.setTable_timer (s : Part) (x : ReadingTable) : (s.setTable x).timer = s.timer := rfl
@[simp] theorem Part.setTable_store (s : Part) (x : ReadingTable) : (s.setTable x).store = s.store := rfl
@[simp] theorem Part.setTable_corr (s : Part) (x : ReadingTable) : (s.setTable x).corr = s.corr := rfl
@[simp] theorem Part.setTable_table (s : Part) (x : ReadingTable) : (s.setTable x).table = x := rfl
@[simp] theorem Part.setTable_round (s : Part) (x : ReadingTable) : (s.setTable x).round = s.round := rfl
@[simp] theorem Part.setTable_seq (s : Part) (x : ReadingTable) : (s.setTable x).seq = s.seq := rfl
@[simp] theorem Part.setTable_elems (s : Part) (x : ReadingTable) : (s.setTable x).elems = s.elems := rfl
@[simp] theorem Part.setTable_walk (s : Part) (x : ReadingTable) : (s.setTable x).walk = s.walk := rfl
@[simp] theorem Part.setTable_trim (s : Part) (x : ReadingTable) : (s.setTable x).trim = s.trim := rfl
@[simp] theorem Part.setTable_ramp (s : Part) (x : ReadingTable) : (s.setTable x).ramp = s.ramp := rfl
@[simp] theorem Part.setTable_faults (s : Part) (x : ReadingTable) : (s.setTable x).faults = s.faults := rfl
@[simp] theorem Part.setTable_field (s : Part) (x : ReadingTable) : (s.setTable x).field = s.field := rfl
@[simp] theorem Part.setTable_station (s : Part) (x : ReadingTable) : (s.setTable x).station = s.station := rfl
@[simp] theorem Part.setTable_clock (s : Part) (x : ReadingTable) : (s.setTable x).clock = s.clock := rfl
@[simp] theorem Part.setTable_sched (s : Part) (x : ReadingTable) : (s.setTable x).sched = s.sched := rfl
@[simp] theorem Part.setTable_raised (s : Part) (x : ReadingTable) : (s.setTable x).raised = s.raised := rfl
@[simp] theorem Part.setTable_free (s : Part) (x : ReadingTable) : (s.setTable x).free = s.free := rfl

@[simp] theorem Part.setRound_held (s : Part) (x : VerdictUnit) : (s.setRound x).held = s.held := rfl
@[simp] theorem Part.setRound_lines (s : Part) (x : VerdictUnit) : (s.setRound x).lines = s.lines := rfl
@[simp] theorem Part.setRound_pins (s : Part) (x : VerdictUnit) : (s.setRound x).pins = s.pins := rfl
@[simp] theorem Part.setRound_uptime (s : Part) (x : VerdictUnit) : (s.setRound x).uptime = s.uptime := rfl
@[simp] theorem Part.setRound_tables (s : Part) (x : VerdictUnit) : (s.setRound x).tables = s.tables := rfl
@[simp] theorem Part.setRound_timer (s : Part) (x : VerdictUnit) : (s.setRound x).timer = s.timer := rfl
@[simp] theorem Part.setRound_store (s : Part) (x : VerdictUnit) : (s.setRound x).store = s.store := rfl
@[simp] theorem Part.setRound_corr (s : Part) (x : VerdictUnit) : (s.setRound x).corr = s.corr := rfl
@[simp] theorem Part.setRound_table (s : Part) (x : VerdictUnit) : (s.setRound x).table = s.table := rfl
@[simp] theorem Part.setRound_round (s : Part) (x : VerdictUnit) : (s.setRound x).round = x := rfl
@[simp] theorem Part.setRound_seq (s : Part) (x : VerdictUnit) : (s.setRound x).seq = s.seq := rfl
@[simp] theorem Part.setRound_elems (s : Part) (x : VerdictUnit) : (s.setRound x).elems = s.elems := rfl
@[simp] theorem Part.setRound_walk (s : Part) (x : VerdictUnit) : (s.setRound x).walk = s.walk := rfl
@[simp] theorem Part.setRound_trim (s : Part) (x : VerdictUnit) : (s.setRound x).trim = s.trim := rfl
@[simp] theorem Part.setRound_ramp (s : Part) (x : VerdictUnit) : (s.setRound x).ramp = s.ramp := rfl
@[simp] theorem Part.setRound_faults (s : Part) (x : VerdictUnit) : (s.setRound x).faults = s.faults := rfl
@[simp] theorem Part.setRound_field (s : Part) (x : VerdictUnit) : (s.setRound x).field = s.field := rfl
@[simp] theorem Part.setRound_station (s : Part) (x : VerdictUnit) : (s.setRound x).station = s.station := rfl
@[simp] theorem Part.setRound_clock (s : Part) (x : VerdictUnit) : (s.setRound x).clock = s.clock := rfl
@[simp] theorem Part.setRound_sched (s : Part) (x : VerdictUnit) : (s.setRound x).sched = s.sched := rfl
@[simp] theorem Part.setRound_raised (s : Part) (x : VerdictUnit) : (s.setRound x).raised = s.raised := rfl
@[simp] theorem Part.setRound_free (s : Part) (x : VerdictUnit) : (s.setRound x).free = s.free := rfl

@[simp] theorem Part.setSeq_held (s : Part) (x : Sequencer) : (s.setSeq x).held = s.held := rfl
@[simp] theorem Part.setSeq_lines (s : Part) (x : Sequencer) : (s.setSeq x).lines = s.lines := rfl
@[simp] theorem Part.setSeq_pins (s : Part) (x : Sequencer) : (s.setSeq x).pins = s.pins := rfl
@[simp] theorem Part.setSeq_uptime (s : Part) (x : Sequencer) : (s.setSeq x).uptime = s.uptime := rfl
@[simp] theorem Part.setSeq_tables (s : Part) (x : Sequencer) : (s.setSeq x).tables = s.tables := rfl
@[simp] theorem Part.setSeq_timer (s : Part) (x : Sequencer) : (s.setSeq x).timer = s.timer := rfl
@[simp] theorem Part.setSeq_store (s : Part) (x : Sequencer) : (s.setSeq x).store = s.store := rfl
@[simp] theorem Part.setSeq_corr (s : Part) (x : Sequencer) : (s.setSeq x).corr = s.corr := rfl
@[simp] theorem Part.setSeq_table (s : Part) (x : Sequencer) : (s.setSeq x).table = s.table := rfl
@[simp] theorem Part.setSeq_round (s : Part) (x : Sequencer) : (s.setSeq x).round = s.round := rfl
@[simp] theorem Part.setSeq_seq (s : Part) (x : Sequencer) : (s.setSeq x).seq = x := rfl
@[simp] theorem Part.setSeq_elems (s : Part) (x : Sequencer) : (s.setSeq x).elems = s.elems := rfl
@[simp] theorem Part.setSeq_walk (s : Part) (x : Sequencer) : (s.setSeq x).walk = s.walk := rfl
@[simp] theorem Part.setSeq_trim (s : Part) (x : Sequencer) : (s.setSeq x).trim = s.trim := rfl
@[simp] theorem Part.setSeq_ramp (s : Part) (x : Sequencer) : (s.setSeq x).ramp = s.ramp := rfl
@[simp] theorem Part.setSeq_faults (s : Part) (x : Sequencer) : (s.setSeq x).faults = s.faults := rfl
@[simp] theorem Part.setSeq_field (s : Part) (x : Sequencer) : (s.setSeq x).field = s.field := rfl
@[simp] theorem Part.setSeq_station (s : Part) (x : Sequencer) : (s.setSeq x).station = s.station := rfl
@[simp] theorem Part.setSeq_clock (s : Part) (x : Sequencer) : (s.setSeq x).clock = s.clock := rfl
@[simp] theorem Part.setSeq_sched (s : Part) (x : Sequencer) : (s.setSeq x).sched = s.sched := rfl
@[simp] theorem Part.setSeq_raised (s : Part) (x : Sequencer) : (s.setSeq x).raised = s.raised := rfl
@[simp] theorem Part.setSeq_free (s : Part) (x : Sequencer) : (s.setSeq x).free = s.free := rfl

@[simp] theorem Part.setElems_held (s : Part) (x : Vector ElemRecord 40) : (s.setElems x).held = s.held := rfl
@[simp] theorem Part.setElems_lines (s : Part) (x : Vector ElemRecord 40) : (s.setElems x).lines = s.lines := rfl
@[simp] theorem Part.setElems_pins (s : Part) (x : Vector ElemRecord 40) : (s.setElems x).pins = s.pins := rfl
@[simp] theorem Part.setElems_uptime (s : Part) (x : Vector ElemRecord 40) : (s.setElems x).uptime = s.uptime := rfl
@[simp] theorem Part.setElems_tables (s : Part) (x : Vector ElemRecord 40) : (s.setElems x).tables = s.tables := rfl
@[simp] theorem Part.setElems_timer (s : Part) (x : Vector ElemRecord 40) : (s.setElems x).timer = s.timer := rfl
@[simp] theorem Part.setElems_store (s : Part) (x : Vector ElemRecord 40) : (s.setElems x).store = s.store := rfl
@[simp] theorem Part.setElems_corr (s : Part) (x : Vector ElemRecord 40) : (s.setElems x).corr = s.corr := rfl
@[simp] theorem Part.setElems_table (s : Part) (x : Vector ElemRecord 40) : (s.setElems x).table = s.table := rfl
@[simp] theorem Part.setElems_round (s : Part) (x : Vector ElemRecord 40) : (s.setElems x).round = s.round := rfl
@[simp] theorem Part.setElems_seq (s : Part) (x : Vector ElemRecord 40) : (s.setElems x).seq = s.seq := rfl
@[simp] theorem Part.setElems_elems (s : Part) (x : Vector ElemRecord 40) : (s.setElems x).elems = x := rfl
@[simp] theorem Part.setElems_walk (s : Part) (x : Vector ElemRecord 40) : (s.setElems x).walk = s.walk := rfl
@[simp] theorem Part.setElems_trim (s : Part) (x : Vector ElemRecord 40) : (s.setElems x).trim = s.trim := rfl
@[simp] theorem Part.setElems_ramp (s : Part) (x : Vector ElemRecord 40) : (s.setElems x).ramp = s.ramp := rfl
@[simp] theorem Part.setElems_faults (s : Part) (x : Vector ElemRecord 40) : (s.setElems x).faults = s.faults := rfl
@[simp] theorem Part.setElems_field (s : Part) (x : Vector ElemRecord 40) : (s.setElems x).field = s.field := rfl
@[simp] theorem Part.setElems_station (s : Part) (x : Vector ElemRecord 40) : (s.setElems x).station = s.station := rfl
@[simp] theorem Part.setElems_clock (s : Part) (x : Vector ElemRecord 40) : (s.setElems x).clock = s.clock := rfl
@[simp] theorem Part.setElems_sched (s : Part) (x : Vector ElemRecord 40) : (s.setElems x).sched = s.sched := rfl
@[simp] theorem Part.setElems_raised (s : Part) (x : Vector ElemRecord 40) : (s.setElems x).raised = s.raised := rfl
@[simp] theorem Part.setElems_free (s : Part) (x : Vector ElemRecord 40) : (s.setElems x).free = s.free := rfl

@[simp] theorem Part.setWalk_held (s : Part) (x : SwitchEngine) : (s.setWalk x).held = s.held := rfl
@[simp] theorem Part.setWalk_lines (s : Part) (x : SwitchEngine) : (s.setWalk x).lines = s.lines := rfl
@[simp] theorem Part.setWalk_pins (s : Part) (x : SwitchEngine) : (s.setWalk x).pins = s.pins := rfl
@[simp] theorem Part.setWalk_uptime (s : Part) (x : SwitchEngine) : (s.setWalk x).uptime = s.uptime := rfl
@[simp] theorem Part.setWalk_tables (s : Part) (x : SwitchEngine) : (s.setWalk x).tables = s.tables := rfl
@[simp] theorem Part.setWalk_timer (s : Part) (x : SwitchEngine) : (s.setWalk x).timer = s.timer := rfl
@[simp] theorem Part.setWalk_store (s : Part) (x : SwitchEngine) : (s.setWalk x).store = s.store := rfl
@[simp] theorem Part.setWalk_corr (s : Part) (x : SwitchEngine) : (s.setWalk x).corr = s.corr := rfl
@[simp] theorem Part.setWalk_table (s : Part) (x : SwitchEngine) : (s.setWalk x).table = s.table := rfl
@[simp] theorem Part.setWalk_round (s : Part) (x : SwitchEngine) : (s.setWalk x).round = s.round := rfl
@[simp] theorem Part.setWalk_seq (s : Part) (x : SwitchEngine) : (s.setWalk x).seq = s.seq := rfl
@[simp] theorem Part.setWalk_elems (s : Part) (x : SwitchEngine) : (s.setWalk x).elems = s.elems := rfl
@[simp] theorem Part.setWalk_walk (s : Part) (x : SwitchEngine) : (s.setWalk x).walk = x := rfl
@[simp] theorem Part.setWalk_trim (s : Part) (x : SwitchEngine) : (s.setWalk x).trim = s.trim := rfl
@[simp] theorem Part.setWalk_ramp (s : Part) (x : SwitchEngine) : (s.setWalk x).ramp = s.ramp := rfl
@[simp] theorem Part.setWalk_faults (s : Part) (x : SwitchEngine) : (s.setWalk x).faults = s.faults := rfl
@[simp] theorem Part.setWalk_field (s : Part) (x : SwitchEngine) : (s.setWalk x).field = s.field := rfl
@[simp] theorem Part.setWalk_station (s : Part) (x : SwitchEngine) : (s.setWalk x).station = s.station := rfl
@[simp] theorem Part.setWalk_clock (s : Part) (x : SwitchEngine) : (s.setWalk x).clock = s.clock := rfl
@[simp] theorem Part.setWalk_sched (s : Part) (x : SwitchEngine) : (s.setWalk x).sched = s.sched := rfl
@[simp] theorem Part.setWalk_raised (s : Part) (x : SwitchEngine) : (s.setWalk x).raised = s.raised := rfl
@[simp] theorem Part.setWalk_free (s : Part) (x : SwitchEngine) : (s.setWalk x).free = s.free := rfl

@[simp] theorem Part.setTrim_held (s : Part) (x : TrimEngine) : (s.setTrim x).held = s.held := rfl
@[simp] theorem Part.setTrim_lines (s : Part) (x : TrimEngine) : (s.setTrim x).lines = s.lines := rfl
@[simp] theorem Part.setTrim_pins (s : Part) (x : TrimEngine) : (s.setTrim x).pins = s.pins := rfl
@[simp] theorem Part.setTrim_uptime (s : Part) (x : TrimEngine) : (s.setTrim x).uptime = s.uptime := rfl
@[simp] theorem Part.setTrim_tables (s : Part) (x : TrimEngine) : (s.setTrim x).tables = s.tables := rfl
@[simp] theorem Part.setTrim_timer (s : Part) (x : TrimEngine) : (s.setTrim x).timer = s.timer := rfl
@[simp] theorem Part.setTrim_store (s : Part) (x : TrimEngine) : (s.setTrim x).store = s.store := rfl
@[simp] theorem Part.setTrim_corr (s : Part) (x : TrimEngine) : (s.setTrim x).corr = s.corr := rfl
@[simp] theorem Part.setTrim_table (s : Part) (x : TrimEngine) : (s.setTrim x).table = s.table := rfl
@[simp] theorem Part.setTrim_round (s : Part) (x : TrimEngine) : (s.setTrim x).round = s.round := rfl
@[simp] theorem Part.setTrim_seq (s : Part) (x : TrimEngine) : (s.setTrim x).seq = s.seq := rfl
@[simp] theorem Part.setTrim_elems (s : Part) (x : TrimEngine) : (s.setTrim x).elems = s.elems := rfl
@[simp] theorem Part.setTrim_walk (s : Part) (x : TrimEngine) : (s.setTrim x).walk = s.walk := rfl
@[simp] theorem Part.setTrim_trim (s : Part) (x : TrimEngine) : (s.setTrim x).trim = x := rfl
@[simp] theorem Part.setTrim_ramp (s : Part) (x : TrimEngine) : (s.setTrim x).ramp = s.ramp := rfl
@[simp] theorem Part.setTrim_faults (s : Part) (x : TrimEngine) : (s.setTrim x).faults = s.faults := rfl
@[simp] theorem Part.setTrim_field (s : Part) (x : TrimEngine) : (s.setTrim x).field = s.field := rfl
@[simp] theorem Part.setTrim_station (s : Part) (x : TrimEngine) : (s.setTrim x).station = s.station := rfl
@[simp] theorem Part.setTrim_clock (s : Part) (x : TrimEngine) : (s.setTrim x).clock = s.clock := rfl
@[simp] theorem Part.setTrim_sched (s : Part) (x : TrimEngine) : (s.setTrim x).sched = s.sched := rfl
@[simp] theorem Part.setTrim_raised (s : Part) (x : TrimEngine) : (s.setTrim x).raised = s.raised := rfl
@[simp] theorem Part.setTrim_free (s : Part) (x : TrimEngine) : (s.setTrim x).free = s.free := rfl

@[simp] theorem Part.setRamp_held (s : Part) (x : RampEngine) : (s.setRamp x).held = s.held := rfl
@[simp] theorem Part.setRamp_lines (s : Part) (x : RampEngine) : (s.setRamp x).lines = s.lines := rfl
@[simp] theorem Part.setRamp_pins (s : Part) (x : RampEngine) : (s.setRamp x).pins = s.pins := rfl
@[simp] theorem Part.setRamp_uptime (s : Part) (x : RampEngine) : (s.setRamp x).uptime = s.uptime := rfl
@[simp] theorem Part.setRamp_tables (s : Part) (x : RampEngine) : (s.setRamp x).tables = s.tables := rfl
@[simp] theorem Part.setRamp_timer (s : Part) (x : RampEngine) : (s.setRamp x).timer = s.timer := rfl
@[simp] theorem Part.setRamp_store (s : Part) (x : RampEngine) : (s.setRamp x).store = s.store := rfl
@[simp] theorem Part.setRamp_corr (s : Part) (x : RampEngine) : (s.setRamp x).corr = s.corr := rfl
@[simp] theorem Part.setRamp_table (s : Part) (x : RampEngine) : (s.setRamp x).table = s.table := rfl
@[simp] theorem Part.setRamp_round (s : Part) (x : RampEngine) : (s.setRamp x).round = s.round := rfl
@[simp] theorem Part.setRamp_seq (s : Part) (x : RampEngine) : (s.setRamp x).seq = s.seq := rfl
@[simp] theorem Part.setRamp_elems (s : Part) (x : RampEngine) : (s.setRamp x).elems = s.elems := rfl
@[simp] theorem Part.setRamp_walk (s : Part) (x : RampEngine) : (s.setRamp x).walk = s.walk := rfl
@[simp] theorem Part.setRamp_trim (s : Part) (x : RampEngine) : (s.setRamp x).trim = s.trim := rfl
@[simp] theorem Part.setRamp_ramp (s : Part) (x : RampEngine) : (s.setRamp x).ramp = x := rfl
@[simp] theorem Part.setRamp_faults (s : Part) (x : RampEngine) : (s.setRamp x).faults = s.faults := rfl
@[simp] theorem Part.setRamp_field (s : Part) (x : RampEngine) : (s.setRamp x).field = s.field := rfl
@[simp] theorem Part.setRamp_station (s : Part) (x : RampEngine) : (s.setRamp x).station = s.station := rfl
@[simp] theorem Part.setRamp_clock (s : Part) (x : RampEngine) : (s.setRamp x).clock = s.clock := rfl
@[simp] theorem Part.setRamp_sched (s : Part) (x : RampEngine) : (s.setRamp x).sched = s.sched := rfl
@[simp] theorem Part.setRamp_raised (s : Part) (x : RampEngine) : (s.setRamp x).raised = s.raised := rfl
@[simp] theorem Part.setRamp_free (s : Part) (x : RampEngine) : (s.setRamp x).free = s.free := rfl

@[simp] theorem Part.setFaults_held (s : Part) (x : FaultUnit) : (s.setFaults x).held = s.held := rfl
@[simp] theorem Part.setFaults_lines (s : Part) (x : FaultUnit) : (s.setFaults x).lines = s.lines := rfl
@[simp] theorem Part.setFaults_pins (s : Part) (x : FaultUnit) : (s.setFaults x).pins = s.pins := rfl
@[simp] theorem Part.setFaults_uptime (s : Part) (x : FaultUnit) : (s.setFaults x).uptime = s.uptime := rfl
@[simp] theorem Part.setFaults_tables (s : Part) (x : FaultUnit) : (s.setFaults x).tables = s.tables := rfl
@[simp] theorem Part.setFaults_timer (s : Part) (x : FaultUnit) : (s.setFaults x).timer = s.timer := rfl
@[simp] theorem Part.setFaults_store (s : Part) (x : FaultUnit) : (s.setFaults x).store = s.store := rfl
@[simp] theorem Part.setFaults_corr (s : Part) (x : FaultUnit) : (s.setFaults x).corr = s.corr := rfl
@[simp] theorem Part.setFaults_table (s : Part) (x : FaultUnit) : (s.setFaults x).table = s.table := rfl
@[simp] theorem Part.setFaults_round (s : Part) (x : FaultUnit) : (s.setFaults x).round = s.round := rfl
@[simp] theorem Part.setFaults_seq (s : Part) (x : FaultUnit) : (s.setFaults x).seq = s.seq := rfl
@[simp] theorem Part.setFaults_elems (s : Part) (x : FaultUnit) : (s.setFaults x).elems = s.elems := rfl
@[simp] theorem Part.setFaults_walk (s : Part) (x : FaultUnit) : (s.setFaults x).walk = s.walk := rfl
@[simp] theorem Part.setFaults_trim (s : Part) (x : FaultUnit) : (s.setFaults x).trim = s.trim := rfl
@[simp] theorem Part.setFaults_ramp (s : Part) (x : FaultUnit) : (s.setFaults x).ramp = s.ramp := rfl
@[simp] theorem Part.setFaults_faults (s : Part) (x : FaultUnit) : (s.setFaults x).faults = x := rfl
@[simp] theorem Part.setFaults_field (s : Part) (x : FaultUnit) : (s.setFaults x).field = s.field := rfl
@[simp] theorem Part.setFaults_station (s : Part) (x : FaultUnit) : (s.setFaults x).station = s.station := rfl
@[simp] theorem Part.setFaults_clock (s : Part) (x : FaultUnit) : (s.setFaults x).clock = s.clock := rfl
@[simp] theorem Part.setFaults_sched (s : Part) (x : FaultUnit) : (s.setFaults x).sched = s.sched := rfl
@[simp] theorem Part.setFaults_raised (s : Part) (x : FaultUnit) : (s.setFaults x).raised = s.raised := rfl
@[simp] theorem Part.setFaults_free (s : Part) (x : FaultUnit) : (s.setFaults x).free = s.free := rfl

@[simp] theorem Part.setField_held (s : Part) (x : FieldPort) : (s.setField x).held = s.held := rfl
@[simp] theorem Part.setField_lines (s : Part) (x : FieldPort) : (s.setField x).lines = s.lines := rfl
@[simp] theorem Part.setField_pins (s : Part) (x : FieldPort) : (s.setField x).pins = s.pins := rfl
@[simp] theorem Part.setField_uptime (s : Part) (x : FieldPort) : (s.setField x).uptime = s.uptime := rfl
@[simp] theorem Part.setField_tables (s : Part) (x : FieldPort) : (s.setField x).tables = s.tables := rfl
@[simp] theorem Part.setField_timer (s : Part) (x : FieldPort) : (s.setField x).timer = s.timer := rfl
@[simp] theorem Part.setField_store (s : Part) (x : FieldPort) : (s.setField x).store = s.store := rfl
@[simp] theorem Part.setField_corr (s : Part) (x : FieldPort) : (s.setField x).corr = s.corr := rfl
@[simp] theorem Part.setField_table (s : Part) (x : FieldPort) : (s.setField x).table = s.table := rfl
@[simp] theorem Part.setField_round (s : Part) (x : FieldPort) : (s.setField x).round = s.round := rfl
@[simp] theorem Part.setField_seq (s : Part) (x : FieldPort) : (s.setField x).seq = s.seq := rfl
@[simp] theorem Part.setField_elems (s : Part) (x : FieldPort) : (s.setField x).elems = s.elems := rfl
@[simp] theorem Part.setField_walk (s : Part) (x : FieldPort) : (s.setField x).walk = s.walk := rfl
@[simp] theorem Part.setField_trim (s : Part) (x : FieldPort) : (s.setField x).trim = s.trim := rfl
@[simp] theorem Part.setField_ramp (s : Part) (x : FieldPort) : (s.setField x).ramp = s.ramp := rfl
@[simp] theorem Part.setField_faults (s : Part) (x : FieldPort) : (s.setField x).faults = s.faults := rfl
@[simp] theorem Part.setField_field (s : Part) (x : FieldPort) : (s.setField x).field = x := rfl
@[simp] theorem Part.setField_station (s : Part) (x : FieldPort) : (s.setField x).station = s.station := rfl
@[simp] theorem Part.setField_clock (s : Part) (x : FieldPort) : (s.setField x).clock = s.clock := rfl
@[simp] theorem Part.setField_sched (s : Part) (x : FieldPort) : (s.setField x).sched = s.sched := rfl
@[simp] theorem Part.setField_raised (s : Part) (x : FieldPort) : (s.setField x).raised = s.raised := rfl
@[simp] theorem Part.setField_free (s : Part) (x : FieldPort) : (s.setField x).free = s.free := rfl

@[simp] theorem Part.setStation_held (s : Part) (x : StationPort) : (s.setStation x).held = s.held := rfl
@[simp] theorem Part.setStation_lines (s : Part) (x : StationPort) : (s.setStation x).lines = s.lines := rfl
@[simp] theorem Part.setStation_pins (s : Part) (x : StationPort) : (s.setStation x).pins = s.pins := rfl
@[simp] theorem Part.setStation_uptime (s : Part) (x : StationPort) : (s.setStation x).uptime = s.uptime := rfl
@[simp] theorem Part.setStation_tables (s : Part) (x : StationPort) : (s.setStation x).tables = s.tables := rfl
@[simp] theorem Part.setStation_timer (s : Part) (x : StationPort) : (s.setStation x).timer = s.timer := rfl
@[simp] theorem Part.setStation_store (s : Part) (x : StationPort) : (s.setStation x).store = s.store := rfl
@[simp] theorem Part.setStation_corr (s : Part) (x : StationPort) : (s.setStation x).corr = s.corr := rfl
@[simp] theorem Part.setStation_table (s : Part) (x : StationPort) : (s.setStation x).table = s.table := rfl
@[simp] theorem Part.setStation_round (s : Part) (x : StationPort) : (s.setStation x).round = s.round := rfl
@[simp] theorem Part.setStation_seq (s : Part) (x : StationPort) : (s.setStation x).seq = s.seq := rfl
@[simp] theorem Part.setStation_elems (s : Part) (x : StationPort) : (s.setStation x).elems = s.elems := rfl
@[simp] theorem Part.setStation_walk (s : Part) (x : StationPort) : (s.setStation x).walk = s.walk := rfl
@[simp] theorem Part.setStation_trim (s : Part) (x : StationPort) : (s.setStation x).trim = s.trim := rfl
@[simp] theorem Part.setStation_ramp (s : Part) (x : StationPort) : (s.setStation x).ramp = s.ramp := rfl
@[simp] theorem Part.setStation_faults (s : Part) (x : StationPort) : (s.setStation x).faults = s.faults := rfl
@[simp] theorem Part.setStation_field (s : Part) (x : StationPort) : (s.setStation x).field = s.field := rfl
@[simp] theorem Part.setStation_station (s : Part) (x : StationPort) : (s.setStation x).station = x := rfl
@[simp] theorem Part.setStation_clock (s : Part) (x : StationPort) : (s.setStation x).clock = s.clock := rfl
@[simp] theorem Part.setStation_sched (s : Part) (x : StationPort) : (s.setStation x).sched = s.sched := rfl
@[simp] theorem Part.setStation_raised (s : Part) (x : StationPort) : (s.setStation x).raised = s.raised := rfl
@[simp] theorem Part.setStation_free (s : Part) (x : StationPort) : (s.setStation x).free = s.free := rfl

@[simp] theorem Part.setClock_held (s : Part) (x : Clock) : (s.setClock x).held = s.held := rfl
@[simp] theorem Part.setClock_lines (s : Part) (x : Clock) : (s.setClock x).lines = s.lines := rfl
@[simp] theorem Part.setClock_pins (s : Part) (x : Clock) : (s.setClock x).pins = s.pins := rfl
@[simp] theorem Part.setClock_uptime (s : Part) (x : Clock) : (s.setClock x).uptime = s.uptime := rfl
@[simp] theorem Part.setClock_tables (s : Part) (x : Clock) : (s.setClock x).tables = s.tables := rfl
@[simp] theorem Part.setClock_timer (s : Part) (x : Clock) : (s.setClock x).timer = s.timer := rfl
@[simp] theorem Part.setClock_store (s : Part) (x : Clock) : (s.setClock x).store = s.store := rfl
@[simp] theorem Part.setClock_corr (s : Part) (x : Clock) : (s.setClock x).corr = s.corr := rfl
@[simp] theorem Part.setClock_table (s : Part) (x : Clock) : (s.setClock x).table = s.table := rfl
@[simp] theorem Part.setClock_round (s : Part) (x : Clock) : (s.setClock x).round = s.round := rfl
@[simp] theorem Part.setClock_seq (s : Part) (x : Clock) : (s.setClock x).seq = s.seq := rfl
@[simp] theorem Part.setClock_elems (s : Part) (x : Clock) : (s.setClock x).elems = s.elems := rfl
@[simp] theorem Part.setClock_walk (s : Part) (x : Clock) : (s.setClock x).walk = s.walk := rfl
@[simp] theorem Part.setClock_trim (s : Part) (x : Clock) : (s.setClock x).trim = s.trim := rfl
@[simp] theorem Part.setClock_ramp (s : Part) (x : Clock) : (s.setClock x).ramp = s.ramp := rfl
@[simp] theorem Part.setClock_faults (s : Part) (x : Clock) : (s.setClock x).faults = s.faults := rfl
@[simp] theorem Part.setClock_field (s : Part) (x : Clock) : (s.setClock x).field = s.field := rfl
@[simp] theorem Part.setClock_station (s : Part) (x : Clock) : (s.setClock x).station = s.station := rfl
@[simp] theorem Part.setClock_clock (s : Part) (x : Clock) : (s.setClock x).clock = x := rfl
@[simp] theorem Part.setClock_sched (s : Part) (x : Clock) : (s.setClock x).sched = s.sched := rfl
@[simp] theorem Part.setClock_raised (s : Part) (x : Clock) : (s.setClock x).raised = s.raised := rfl
@[simp] theorem Part.setClock_free (s : Part) (x : Clock) : (s.setClock x).free = s.free := rfl

@[simp] theorem Part.setSched_held (s : Part) (x : Scheduler) : (s.setSched x).held = s.held := rfl
@[simp] theorem Part.setSched_lines (s : Part) (x : Scheduler) : (s.setSched x).lines = s.lines := rfl
@[simp] theorem Part.setSched_pins (s : Part) (x : Scheduler) : (s.setSched x).pins = s.pins := rfl
@[simp] theorem Part.setSched_uptime (s : Part) (x : Scheduler) : (s.setSched x).uptime = s.uptime := rfl
@[simp] theorem Part.setSched_tables (s : Part) (x : Scheduler) : (s.setSched x).tables = s.tables := rfl
@[simp] theorem Part.setSched_timer (s : Part) (x : Scheduler) : (s.setSched x).timer = s.timer := rfl
@[simp] theorem Part.setSched_store (s : Part) (x : Scheduler) : (s.setSched x).store = s.store := rfl
@[simp] theorem Part.setSched_corr (s : Part) (x : Scheduler) : (s.setSched x).corr = s.corr := rfl
@[simp] theorem Part.setSched_table (s : Part) (x : Scheduler) : (s.setSched x).table = s.table := rfl
@[simp] theorem Part.setSched_round (s : Part) (x : Scheduler) : (s.setSched x).round = s.round := rfl
@[simp] theorem Part.setSched_seq (s : Part) (x : Scheduler) : (s.setSched x).seq = s.seq := rfl
@[simp] theorem Part.setSched_elems (s : Part) (x : Scheduler) : (s.setSched x).elems = s.elems := rfl
@[simp] theorem Part.setSched_walk (s : Part) (x : Scheduler) : (s.setSched x).walk = s.walk := rfl
@[simp] theorem Part.setSched_trim (s : Part) (x : Scheduler) : (s.setSched x).trim = s.trim := rfl
@[simp] theorem Part.setSched_ramp (s : Part) (x : Scheduler) : (s.setSched x).ramp = s.ramp := rfl
@[simp] theorem Part.setSched_faults (s : Part) (x : Scheduler) : (s.setSched x).faults = s.faults := rfl
@[simp] theorem Part.setSched_field (s : Part) (x : Scheduler) : (s.setSched x).field = s.field := rfl
@[simp] theorem Part.setSched_station (s : Part) (x : Scheduler) : (s.setSched x).station = s.station := rfl
@[simp] theorem Part.setSched_clock (s : Part) (x : Scheduler) : (s.setSched x).clock = s.clock := rfl
@[simp] theorem Part.setSched_sched (s : Part) (x : Scheduler) : (s.setSched x).sched = x := rfl
@[simp] theorem Part.setSched_raised (s : Part) (x : Scheduler) : (s.setSched x).raised = s.raised := rfl
@[simp] theorem Part.setSched_free (s : Part) (x : Scheduler) : (s.setSched x).free = s.free := rfl

@[simp] theorem Part.setRaised_held (s : Part) (x : List Raised) : (s.setRaised x).held = s.held := rfl
@[simp] theorem Part.setRaised_lines (s : Part) (x : List Raised) : (s.setRaised x).lines = s.lines := rfl
@[simp] theorem Part.setRaised_pins (s : Part) (x : List Raised) : (s.setRaised x).pins = s.pins := rfl
@[simp] theorem Part.setRaised_uptime (s : Part) (x : List Raised) : (s.setRaised x).uptime = s.uptime := rfl
@[simp] theorem Part.setRaised_tables (s : Part) (x : List Raised) : (s.setRaised x).tables = s.tables := rfl
@[simp] theorem Part.setRaised_timer (s : Part) (x : List Raised) : (s.setRaised x).timer = s.timer := rfl
@[simp] theorem Part.setRaised_store (s : Part) (x : List Raised) : (s.setRaised x).store = s.store := rfl
@[simp] theorem Part.setRaised_corr (s : Part) (x : List Raised) : (s.setRaised x).corr = s.corr := rfl
@[simp] theorem Part.setRaised_table (s : Part) (x : List Raised) : (s.setRaised x).table = s.table := rfl
@[simp] theorem Part.setRaised_round (s : Part) (x : List Raised) : (s.setRaised x).round = s.round := rfl
@[simp] theorem Part.setRaised_seq (s : Part) (x : List Raised) : (s.setRaised x).seq = s.seq := rfl
@[simp] theorem Part.setRaised_elems (s : Part) (x : List Raised) : (s.setRaised x).elems = s.elems := rfl
@[simp] theorem Part.setRaised_walk (s : Part) (x : List Raised) : (s.setRaised x).walk = s.walk := rfl
@[simp] theorem Part.setRaised_trim (s : Part) (x : List Raised) : (s.setRaised x).trim = s.trim := rfl
@[simp] theorem Part.setRaised_ramp (s : Part) (x : List Raised) : (s.setRaised x).ramp = s.ramp := rfl
@[simp] theorem Part.setRaised_faults (s : Part) (x : List Raised) : (s.setRaised x).faults = s.faults := rfl
@[simp] theorem Part.setRaised_field (s : Part) (x : List Raised) : (s.setRaised x).field = s.field := rfl
@[simp] theorem Part.setRaised_station (s : Part) (x : List Raised) : (s.setRaised x).station = s.station := rfl
@[simp] theorem Part.setRaised_clock (s : Part) (x : List Raised) : (s.setRaised x).clock = s.clock := rfl
@[simp] theorem Part.setRaised_sched (s : Part) (x : List Raised) : (s.setRaised x).sched = s.sched := rfl
@[simp] theorem Part.setRaised_raised (s : Part) (x : List Raised) : (s.setRaised x).raised = x := rfl
@[simp] theorem Part.setRaised_free (s : Part) (x : List Raised) : (s.setRaised x).free = s.free := rfl

@[simp] theorem Part.setFree_held (s : Part) (x : Nat) : (s.setFree x).held = s.held := rfl
@[simp] theorem Part.setFree_lines (s : Part) (x : Nat) : (s.setFree x).lines = s.lines := rfl
@[simp] theorem Part.setFree_pins (s : Part) (x : Nat) : (s.setFree x).pins = s.pins := rfl
@[simp] theorem Part.setFree_uptime (s : Part) (x : Nat) : (s.setFree x).uptime = s.uptime := rfl
@[simp] theorem Part.setFree_tables (s : Part) (x : Nat) : (s.setFree x).tables = s.tables := rfl
@[simp] theorem Part.setFree_timer (s : Part) (x : Nat) : (s.setFree x).timer = s.timer := rfl
@[simp] theorem Part.setFree_store (s : Part) (x : Nat) : (s.setFree x).store = s.store := rfl
@[simp] theorem Part.setFree_corr (s : Part) (x : Nat) : (s.setFree x).corr = s.corr := rfl
@[simp] theorem Part.setFree_table (s : Part) (x : Nat) : (s.setFree x).table = s.table := rfl
@[simp] theorem Part.setFree_round (s : Part) (x : Nat) : (s.setFree x).round = s.round := rfl
@[simp] theorem Part.setFree_seq (s : Part) (x : Nat) : (s.setFree x).seq = s.seq := rfl
@[simp] theorem Part.setFree_elems (s : Part) (x : Nat) : (s.setFree x).elems = s.elems := rfl
@[simp] theorem Part.setFree_walk (s : Part) (x : Nat) : (s.setFree x).walk = s.walk := rfl
@[simp] theorem Part.setFree_trim (s : Part) (x : Nat) : (s.setFree x).trim = s.trim := rfl
@[simp] theorem Part.setFree_ramp (s : Part) (x : Nat) : (s.setFree x).ramp = s.ramp := rfl
@[simp] theorem Part.setFree_faults (s : Part) (x : Nat) : (s.setFree x).faults = s.faults := rfl
@[simp] theorem Part.setFree_field (s : Part) (x : Nat) : (s.setFree x).field = s.field := rfl
@[simp] theorem Part.setFree_station (s : Part) (x : Nat) : (s.setFree x).station = s.station := rfl
@[simp] theorem Part.setFree_clock (s : Part) (x : Nat) : (s.setFree x).clock = s.clock := rfl
@[simp] theorem Part.setFree_sched (s : Part) (x : Nat) : (s.setFree x).sched = s.sched := rfl
@[simp] theorem Part.setFree_raised (s : Part) (x : Nat) : (s.setFree x).raised = s.raised := rfl
@[simp] theorem Part.setFree_free (s : Part) (x : Nat) : (s.setFree x).free = x := rfl

end Sys2Proof.Machine
end

