-- ==== Sys2Proof/Laws/Events.lean ====
section
/-! SUPPORT. What an event leaves, and what a reply, a frame and a raise do, each said once. -/

namespace Sys2Proof.Machine

/-- An event that owes no reaction settles at once. -/
theorem Part.settle_of_none {s : Part} (h : s.raised = []) : s.settle = s := by
  simp [Part.settle, Part.react, h]

/-- The lines of an event that leaves nothing owed. -/
theorem Part.drivePins_of_none {s : Part} (h : s.raised = []) : s.drivePins = s.closed := by
  rcases s with ⟨⟩
  simp only at h
  subst h
  rfl

/-- An event whose steps raise nothing leaves what its steps leave. -/
theorem Part.event_of_none {s : Part} {op : Part → Part} (hh : s.held = false)
    (h : (op (s.setRaised [])).raised = []) : s.event op = (op (s.setRaised [])).closed := by
  simp only [Part.event, hh, Bool.false_eq_true, if_false]
  rw [Part.settle_of_none h, Part.drivePins_of_none h]

/-- R182: with no evaluation due, a command meets the part as it stands. -/
theorem State.run_of_taking {s : State} {op : Part → Part} (h : s.part.taking) : s.run op = s.runNow op := by
  simp [State.run, State.runNow, Part.evaluated, h.2]

/-- R182: with an evaluation due, a command meets the part that the evaluation leaves. -/
theorem State.run_of_due {s : State} {op : Part → Part} (h : s.part.sched.evalDue = true) :
    s.run op = s.runNow fun p => op (p.event Part.scheduleDue) := by
  simp [State.run, State.runNow, Part.evaluated, h]

/-- A part held in reset takes no event. -/
theorem Part.event_of_held {s : Part} {op : Part → Part} (hh : s.held = true) : s.event op = s := by
  simp [Part.event, hh]

/-- The reaction of an event that owes only class D raises, or class C raises outside IN_PATTERN, changes nothing. -/
theorem Part.reactOnce_of_d {s : Part} (h : ∀ r ∈ s.raised, r.cls = .d) : s.reactOnce = s.setRaised [] := by
  have hf : ∀ k, k ≠ FaultClass.d → s.firstOwed k = none := by
    intro k hk
    rw [Part.firstOwed, List.find?_eq_none]
    intro r hr
    simp [h r hr, Ne.symm hk]
  simp [Part.reactOnce, hf]

/-- An event that owes only class D raises settles by forgetting them. -/
theorem Part.settle_of_d {s : Part} (h : ∀ r ∈ s.raised, r.cls = .d) : s.settle = s.setRaised [] := by
  unfold Part.settle Part.react
  split
  · rename_i he
    have he' : s.raised = [] := List.isEmpty_iff.mp he
    rcases s with ⟨⟩
    simp only at he'
    subst he'
    rfl
  · rw [Part.reactOnce_of_d h, Part.react]
    rfl

/-- An event whose steps raise only class D leaves what its steps leave. -/
theorem Part.event_of_d {s : Part} {op : Part → Part} (hh : s.held = false)
    (h : ∀ r ∈ (op (s.setRaised [])).raised, r.cls = .d) : s.event op = (op (s.setRaised [])).closed := by
  simp only [Part.event, hh, Bool.false_eq_true, if_false]
  rw [Part.settle_of_d h, Part.drivePins_of_none rfl]
  rfl

/-- R171, R172: what placing a reply does. -/
theorem Part.reply_eq (s : Part) (f : Frame) : s.reply f = s.replied f := by
  unfold Part.reply Part.replied StationPort.withReply
  by_cases h : s.station.replies.length < queuePlaces
  · have h' : ¬8 ≤ s.station.replies.length := by
      have : queuePlaces = 8 := rfl
      omega
    rw [if_pos h, if_neg h']
    rcases s with ⟨⟩
    rename_i station _ _ _ _
    rcases station with ⟨link, discards, sending, replies, power, monitor, queue⟩
    cases sending <;> cases replies <;> rfl
  · have h' : 8 ≤ s.station.replies.length := by
      have : queuePlaces = 8 := rfl
      omega
    rw [if_neg h, if_pos h']

/-- R164: a valid frame at the Station Port. -/
theorem Part.linkAlive_station (s : Part) : s.linkAlive .station = s.stationHeard := rfl

/-- R164: a valid frame at a Field Port that is UP. -/
theorem Part.linkAlive_field {s : Part} (h : s.field.link.up = true) : s.linkAlive .field = s.fieldHeard := by
  simp [Part.linkAlive, h, Part.fieldHeard, Part.setField, Link.heard, linkTimeout, after]

/-- R175: a request answered. -/
theorem Part.answer_eq (s : Part) (src tag : Byte) (c : RequestCode) (r : Result) (data : List Byte) :
    s.answer src tag c r data = s.replied (mgmtReply src tag c.code r.code data) := by
  rw [Part.answer, Part.reply_eq]
  rfl

/-- A reply owes nothing. -/
@[simp] theorem Part.replied_raised (s : Part) (f : Frame) : (s.replied f).raised = s.raised := rfl

/-- R170: a frame placed behind a transmission of the Station Port. -/
theorem Part.queueStation_eq {s : Part} (h : s.stationBusy) (o : Port) (f : Frame) :
    s.queueStation o f = s.relayed o f := by
  unfold Part.queueStation Part.relayed
  by_cases hq : s.station.queue.length < queuePlaces
  · have hq' : s.station.queue.length < 8 := hq
    rw [if_pos hq, if_pos hq']
    cases hs : s.station.sending with
    | none => exact absurd hs h
    | some g => simp [Part.stationKick, Part.setStation, hs]
  · have hq' : ¬s.station.queue.length < 8 := hq
    rw [if_neg hq, if_neg hq']
    cases o <;> rfl

/-- R140, R149: what a forwarded level sets. -/
theorem Part.setLevel_eq (s : Part) (l : Nat) :
    s.setLevel l =
      { s with
        ramp := { s.ramp with level := l, target := l }
        station := { s.station with power := s.station.power.map fun _ => l } } := rfl

/-- R22, R23: with no entry of the new index and fewer than 8 open, nothing is evicted. -/
theorem Part.makeRoom_of_room {s : Part} {i : BitVec 16} (hi : ∀ e ∈ s.store.entries, e.index ≠ i)
    (h8 : s.store.entries.length < 8) : s.makeRoom i = s := by
  have hc : s.closeOld i = s := by
    have hf : s.entryOf i = none := by
      rw [Part.entryOf, List.find?_eq_none]
      intro e he
      simpa using hi e he
    simp [Part.closeOld, hf]
  rw [Part.makeRoom, hc, Part.evictOldest]
  split
  · rfl
  · simp [Nat.not_le.mpr h8]

/-- R152 to R154: a raise that finds a place and repeats no ACTIVE record. -/
theorem Part.raise_eq {s : Part} {k : FaultKind} {o : FaultObject} (h : s.room k o) (cls : FaultClass) :
    s.raise k o cls = (s.recorded k o cls).setRaised
      (s.raised ++ [{ cls := cls, kind := k, situation := s.situation, pats := s.changePats }]) := by
  have hany : (s.faults.records.any fun x => x.matchesRaise k o) = false := by
    rw [List.any_eq_false]
    intro r hr
    have := h.2 r hr
    simp only [FaultRecord.matchesRaise, Bool.and_eq_true, beq_iff_eq, not_and]
    tauto
  have hf : 3 ≤ 16 - s.faults.records.length := by
    have := h.1
    omega
  have hf1 : 1 ≤ 16 - s.faults.records.length := by omega
  simp only [Part.raise, Part.raiseUnder, FaultUnit.record, Part.newRecord, hany, FaultUnit.place, faultPlaces]
  cases cls <;> simp [hf, hf1, Part.recorded, Part.setFaults, Part.setRaised]

end Sys2Proof.Machine
end

