-- ==== Sys2Proof/Laws/Memory.lean ====
section
/-! SUPPORT. Table Memory: what a byte reads after each operation, and that each keeps the canonical form. -/

namespace Sys2Proof.Machine

/-- Every listed address is at least `lo` in a memory in canonical form above `lo`. -/
theorem cellsFrom_read_below {lo a : Nat} (h : a < lo) :
    ∀ {m : Memory}, cellsFrom lo m = true → m.read a = 0
  | [], _ => rfl
  | (k, v) :: m, hm => by
    simp [cellsFrom] at hm
    simp only [Memory.read]
    rw [if_neg (by omega), if_pos (by omega)]

/-- A canonical form above a bound is one above any lower bound. -/
theorem cellsFrom_mono {lo lo' : Nat} (h : lo' ≤ lo) : ∀ {m : Memory}, cellsFrom lo m = true → cellsFrom lo' m = true
  | [], _ => rfl
  | (k, v) :: m, hm => by
    simp [cellsFrom] at hm ⊢
    exact ⟨⟨by omega, hm.1.2⟩, hm.2⟩

/-- A write at or above a bound keeps the canonical form above it. -/
theorem cellsFrom_write {a : Nat} {b : Byte} :
    ∀ {lo : Nat} {m : Memory}, lo ≤ a → cellsFrom lo m = true → cellsFrom lo (m.write a b) = true
  | lo, [], ha, _ => by
    simp only [Memory.write]
    split
    · rfl
    · simpa [cellsFrom] using ⟨ha, by assumption⟩
  | lo, (k, v) :: m, ha, hm => by
    simp [cellsFrom] at hm
    simp only [Memory.write]
    split
    · split
      · simp [cellsFrom, hm]
      · rename_i hb
        simpa [cellsFrom, *] using hb
    · split
      · subst a
        split
        · exact cellsFrom_mono (by omega) hm.2
        · rename_i hb
          simpa [cellsFrom, *] using hb
      · simp [cellsFrom, hm]
        exact cellsFrom_write (by omega) hm.2

/-- A write keeps the canonical form. -/
theorem Memory.wf_write {m : Memory} (a : Nat) (b : Byte) (h : m.wf = true) : (m.write a b).wf = true :=
  cellsFrom_write (Nat.zero_le a) h

/-- What each byte reads after a write. -/
theorem Memory.read_write {a : Nat} {b : Byte} (x : Nat) :
    ∀ {lo : Nat} {m : Memory}, cellsFrom lo m = true → (m.write a b).read x = if x = a then b else m.read x
  | lo, [], _ => by
    simp only [Memory.write]
    split
    · split <;> simp_all [Memory.read]
    · simp only [Memory.read, ite_self]
      by_cases h : a = x
      · rw [if_pos h, if_pos h.symm]
      · rw [if_neg h, if_neg fun e => h e.symm]
  | lo, (k, v) :: m, hm => by
    simp [cellsFrom] at hm
    simp only [Memory.write]
    split
    · split
      · split
        · simp only [Memory.read]
          rw [if_neg (by omega), if_pos (by omega)]
          simp_all
        · rfl
      · conv_lhs => unfold Memory.read
        split
        · simp_all
        · split
          · rw [if_neg (by omega)]
            simp only [Memory.read]
            rw [if_neg (by omega), if_pos (by omega)]
          · rw [if_neg (by omega)]
    · split
      · subst a
        split
        · split
          · subst x
            rw [cellsFrom_read_below (by omega) hm.2]
            simp_all
          · conv_rhs => unfold Memory.read
            rw [if_neg (by omega)]
            split
            · exact cellsFrom_read_below (by omega) hm.2
            · rfl
        · conv_lhs => unfold Memory.read
          conv_rhs => rw [Memory.read.eq_2]
          by_cases h : k = x
          · rw [if_pos h, if_pos h.symm]
          · simp only [if_neg h, if_neg (fun e : x = k => h e.symm)]
      · conv_lhs => unfold Memory.read
        conv_rhs => rw [Memory.read.eq_2]
        split
        · rw [if_neg (by omega)]
        · split
          · rw [if_neg (by omega)]
          · exact Memory.read_write x hm.2

/-- A write of several bytes keeps the canonical form. -/
theorem Memory.wf_writeBytes : ∀ (l : List Byte) (m : Memory) (a : Nat),
    m.wf = true → (m.writeBytes a l).wf = true
  | [], _, _, h => h
  | b :: l, m, a, h => Memory.wf_writeBytes l (m.write a b) (a + 1) (Memory.wf_write a b h)

/-- What each byte reads after a write of several bytes. -/
theorem Memory.read_writeBytes (x : Nat) : ∀ (l : List Byte) (m : Memory) (a : Nat), m.wf = true →
    (m.writeBytes a l).read x = if a ≤ x ∧ x < a + l.length then l.getD (x - a) 0 else m.read x
  | [], m, a, _ => by
    simp only [Memory.writeBytes, List.length_nil]
    rw [if_neg (by omega)]
  | b :: l, m, a, h => by
    simp only [Memory.writeBytes]
    rw [Memory.read_writeBytes x l _ _ (Memory.wf_write a b h), Memory.read_write x h]
    simp only [List.length_cons]
    by_cases h1 : x = a
    · subst h1
      rw [if_neg (by omega), if_pos rfl, if_pos (by omega)]
      simp
    · by_cases h2 : a + 1 ≤ x ∧ x < a + 1 + l.length
      · rw [if_pos h2, if_pos (by omega)]
        obtain ⟨k, rfl⟩ : ∃ k, x = a + 1 + k := ⟨x - (a + 1), by omega⟩
        have e1 : a + 1 + k - (a + 1) = k := by omega
        have e2 : a + 1 + k - a = k + 1 := by omega
        rw [e1, e2, List.getD_cons_succ]
      · rw [if_neg h2, if_neg h1, if_neg (by omega)]

/-- The bytes read from an address upward. -/
theorem Memory.readBytes_eq (m : Memory) : ∀ (n a : Nat),
    m.readBytes a n = (List.range n).map fun k => m.read (a + k)
  | 0, _ => rfl
  | n + 1, a => by
    rw [Memory.readBytes, Memory.readBytes_eq m n (a + 1), List.range_succ_eq_map, List.map_cons, List.map_map]
    refine congrArg₂ List.cons (by rw [Nat.add_zero]) (List.map_congr_left fun k _ => ?_)
    rw [Function.comp_apply, Nat.succ_eq_add_one, Nat.add_assoc, Nat.add_comm 1 k]

/-- A choice of cells keeps the canonical form. -/
theorem cellsFrom_keep (p : Nat → Bool) : ∀ {lo : Nat} {m : Memory},
    cellsFrom lo m = true → cellsFrom lo (Memory.keep m p) = true
  | _, [], _ => rfl
  | lo, (k, v) :: m, hm => by
    simp [cellsFrom] at hm
    have ih := cellsFrom_keep p hm.2
    simp only [Memory.keep, List.filter_cons]
    split
    · simp only [cellsFrom]
      simp only [Memory.keep] at ih
      simp [hm, ih]
    · exact cellsFrom_mono (by omega) ih

/-- What each byte reads after a choice of cells. -/
theorem Memory.read_keep (p : Nat → Bool) (x : Nat) : ∀ {lo : Nat} {m : Memory},
    cellsFrom lo m = true → (Memory.keep m p).read x = if p x then m.read x else 0
  | _, [], _ => by simp [Memory.keep, Memory.read]
  | lo, (k, v) :: m, hm => by
    simp [cellsFrom] at hm
    have ih := Memory.read_keep p x hm.2
    have hk := cellsFrom_keep p hm.2
    simp only [Memory.keep] at ih hk
    simp only [Memory.keep, List.filter_cons]
    split
    · simp only [Memory.read]
      split
      · simp_all
      · split
        · simp
        · exact ih
    · rename_i hp
      conv_rhs => rw [Memory.read.eq_2]
      by_cases h1 : k = x
      · subst h1
        rw [if_neg hp]
        exact cellsFrom_read_below (by omega) hk
      · rw [if_neg h1]
        by_cases h2 : x < k
        · rw [if_pos h2, cellsFrom_read_below (by omega) hk]
          simp
        · rw [if_neg h2]
          exact ih

/-- A choice of cells keeps the canonical form. -/
theorem Memory.wf_keep {m : Memory} (p : Nat → Bool) (h : m.wf = true) : (m.keep p).wf = true := cellsFrom_keep p h

/-- Two memories, the second wholly above the first, are one in canonical form. -/
theorem cellsFrom_append {hi : Nat} {n : Memory} (hn : cellsFrom hi n = true) : ∀ {lo : Nat} {m : Memory},
    lo ≤ hi → cellsFrom lo m = true → (∀ c ∈ m, c.1 < hi) → cellsFrom lo (m ++ n) = true
  | lo, [], h, _, _ => cellsFrom_mono h hn
  | lo, (k, v) :: m, h, hm, hl => by
    simp [cellsFrom] at hm
    simp only [List.cons_append, cellsFrom]
    have hk : k < hi := hl (k, v) (by simp)
    simp only [hm.1.1, decide_true, Bool.true_and]
    simp [hm.1.2]
    exact cellsFrom_append hn (by omega) hm.2 fun c hc => hl c (by simp [hc])

/-- What each byte reads of two memories, the second wholly above the first. -/
theorem Memory.read_append {hi : Nat} {n : Memory} (hn : cellsFrom hi n = true) (x : Nat) : ∀ {lo : Nat} {m : Memory},
    cellsFrom lo m = true → (∀ c ∈ m, c.1 < hi) →
    (m ++ n : Memory).read x = if x < hi then m.read x else n.read x
  | _, [], _, _ => by
    split
    · rw [List.nil_append, cellsFrom_read_below (by assumption) hn]
      rfl
    · rfl
  | lo, (k, v) :: m, hm, hl => by
    simp [cellsFrom] at hm
    have hk : k < hi := hl (k, v) (by simp)
    have ih := Memory.read_append hn x hm.2 fun c hc => hl c (by simp [hc])
    rw [List.cons_append]
    simp only [Memory.read]
    by_cases h1 : k = x
    · subst h1
      simp [hk]
    · rw [if_neg h1, if_neg h1]
      by_cases h2 : x < k
      · rw [if_pos h2, if_pos h2, if_pos (by omega)]
      · rw [if_neg h2, if_neg h2]
        exact ih

/-- Cells moved up by a distance stay in canonical form. -/
theorem cellsFrom_shift (d : Nat) : ∀ {lo : Nat} {m : Memory}, cellsFrom lo m = true →
    cellsFrom (lo + d) (m.map fun c => (c.1 + d, c.2)) = true
  | _, [], _ => rfl
  | lo, (k, v) :: m, hm => by
    simp [cellsFrom] at hm
    have ih := cellsFrom_shift d hm.2
    simp only [List.map_cons, cellsFrom]
    have e : k + 1 + d = k + d + 1 := by omega
    rw [e] at ih
    simp [hm, ih]

/-- What each byte reads of cells moved up by a distance. -/
theorem Memory.read_shift (d x : Nat) : ∀ (m : Memory),
    Memory.read (m.map fun c => (c.1 + d, c.2)) (x + d) = m.read x
  | [] => rfl
  | (k, v) :: m => by
    simp only [List.map_cons, Memory.read, Nat.add_right_cancel_iff, Nat.add_lt_add_iff_right]
    rw [Memory.read_shift d x m]

/-- The canonical form above a bound, where every listed address reaches it. -/
theorem cellsFrom_of_le {lo hi : Nat} : ∀ {m : Memory}, cellsFrom lo m = true → (∀ c ∈ m, hi ≤ c.1) →
    cellsFrom hi m = true
  | [], _, _ => rfl
  | (k, v) :: m, hm, hl => by
    simp [cellsFrom] at hm ⊢
    exact ⟨⟨hl (k, v) (by simp), hm.1.2⟩, hm.2⟩

/-- Every listed address of a choice of cells satisfies its test. -/
theorem Memory.mem_keep {m : Memory} {p : Nat → Bool} {c : Host.Cell} (h : c ∈ m.keep p) : p c.1 = true :=
  (List.mem_filter.mp h).2

/-- R9: promotion keeps the canonical form, and what each byte reads after it. -/
theorem Memory.promote_spec {m : Memory} (h : m.wf = true) : m.promote.wf = true ∧
    ∀ x, m.promote.read x = if 5120 ≤ x ∧ x < 7872 then m.read (x - 4096) else m.read x := by
  have hA := cellsFrom_keep (fun a => decide (a < 5120)) h
  have hS := cellsFrom_keep (fun a => decide (1024 ≤ a) && decide (a < 3776)) h
  have hC := cellsFrom_keep (fun a => decide (7872 ≤ a)) h
  have hC' : cellsFrom 7872 (m.keep fun a => decide (7872 ≤ a)) = true :=
    cellsFrom_of_le hC fun c hc => by simpa using Memory.mem_keep hc
  have hS1 : cellsFrom 1024 (m.keep fun a => decide (1024 ≤ a) && decide (a < 3776)) = true :=
    cellsFrom_of_le hS fun c hc => by
      have := Memory.mem_keep hc
      simp at this
      exact this.1
  have hB : cellsFrom 5120
      ((m.keep fun a => decide (1024 ≤ a) && decide (a < 3776)).map fun c => (c.1 + 4096, c.2)) = true :=
    cellsFrom_shift 4096 hS1
  have lA : ∀ c ∈ m.keep fun a => decide (a < 5120), c.1 < 5120 := fun c hc => by
    simpa using Memory.mem_keep hc
  have lB : ∀ c ∈ (m.keep fun a => decide (1024 ≤ a) && decide (a < 3776)).map fun c => (c.1 + 4096, c.2),
      c.1 < 7872 := by
    intro c hc
    obtain ⟨d, hd, rfl⟩ := List.mem_map.mp hc
    have := Memory.mem_keep hd
    simp at this
    show d.1 + 4096 < 7872
    omega
  have hBC := cellsFrom_append hC' (by omega) hB lB
  refine ⟨?_, fun x => ?_⟩
  · simp only [Memory.promote, List.append_assoc]
    exact cellsFrom_append hBC (by omega) hA lA
  · simp only [Memory.promote, List.append_assoc]
    rw [Memory.read_append hBC x hA lA, Memory.read_append hC' x hB lB]
    by_cases h1 : x < 5120
    · have n1 : ¬(5120 ≤ x ∧ x < 7872) := by omega
      rw [if_pos h1, Memory.read_keep _ x h, if_neg n1, if_pos (by simpa using h1)]
    · rw [if_neg h1]
      by_cases h2 : x < 7872
      · have n2 : 5120 ≤ x ∧ x < 7872 := by omega
        rw [if_pos h2, if_pos n2]
        obtain ⟨y, rfl⟩ : ∃ y, x = y + 4096 := ⟨x - 4096, by omega⟩
        have n3 : 1024 ≤ y ∧ y < 3776 := by omega
        rw [Memory.read_shift, Memory.read_keep _ y h, Nat.add_sub_cancel, if_pos (by simpa using n3)]
      · have n2 : ¬(5120 ≤ x ∧ x < 7872) := by omega
        have n3 : 7872 ≤ x := by omega
        rw [if_neg h2, if_neg n2, Memory.read_keep _ x h, if_pos (by simpa using n3)]

/-- R5, R8: what a cold reset leaves of Table Memory keeps the canonical form, and what each byte reads. -/
theorem Memory.licenceOnly_spec {m : Memory} (h : m.wf = true) : m.licenceOnly.wf = true ∧
    ∀ x, m.licenceOnly.read x = if x < 256 then m.read x else 0 :=
  ⟨Memory.wf_keep _ h, fun x => by rw [Memory.licenceOnly, Memory.read_keep _ x h]; simp⟩

/-- The reset state's Table Memory has the canonical form. -/
theorem State.reset_mem_wf : State.reset.part.tables.mem.wf = true := rfl

end Sys2Proof.Machine
end

