-- ==== Sys2Proof/Tests/Slice0.lean ====
section
/-! SUPPORT. The model's own tests: ill-formed commands that `Instr.wf` refuses, the spec's worked values, one small step
for each command, and for every obligation with hypotheses a state and operands that meet them. -/

set_option maxRecDepth 20000

namespace Sys2Proof.Tests

open Sys2Proof.Machine

/-! ### Small states -/

/-- A header of pattern record at address a, its contactor set byte, two LIT towers, and no actuator entry. -/
def patternCells (a level set : Nat) : Memory :=
  (([(a, 1), (a + 2, BitVec.ofNat 8 (level / 256)), (a + 3, BitVec.ofNat 8 level), (a + 5, 200), (a + 7, 100), (a + 8, 2),
   (a + 10, 1), (a + 11, 1), (a + 12, 6), (a + 14, 60), (a + 15, 1), (a + 17, BitVec.ofNat 8 set),
   (a + 24, 1), (a + 25, 39), (a + 26, 16), (a + 29, 30), (a + 31, 200),
   (a + 32, 1), (a + 33, 39), (a + 34, 16), (a + 37, 30), (a + 39, 200)] : Memory) ++
    (List.range 16).map fun k => (a + 120 + 12 * k, 255)).filter fun c => c.2 != 0

/-- Two towers of nodes 1 and 2, quiet level 100, signal floor 1, contactors 0 and 2 and actuator 1 on node 16, pattern 0
with every contactor open, and pattern 1 with contactors 0 and 2 closed in two groups. Licensed levels 1000 and 400. -/
def cfg : Memory :=
  [(0, 3), (1, 232), (64, 1), (65, 144),
   (5120, 2), (5121, 1), (5122, 2), (5137, 100), (5142, 1), (5144, 2), (5147, 100), (5148, 5), (5149, 20), (5150, 20),
   (5151, 7), (5152, 208),
   (5248, 96), (5249, 144), (5250, 30),
   (5256, 177), (5257, 16), (5258, 30), (5259, 8), (5260, 19), (5261, 136), (5262, 234), (5263, 96),
   (5264, 98), (5265, 16), (5266, 30)] ++
    patternCells 5568 1000 0 ++ patternCells 5888 400 160 ++
    [(6848, 2), (6853, 1), (6854, 1), (6856, 2), (6857, 1), (6858, 1),
     (7104, 2), (7109, 2), (7110, 1), (7111, 2), (7112, 2), (7113, 2), (7114, 2)]

/-- STOPPED under `cfg`, quiet, both ports transmitting and UP, the contactors open. -/
def idle : Part :=
  { State.reset.part with
    tables := { mem := cfg, licenceWrite := none, staged := .clean }
    table := { State.reset.part.table with quietRuns := Vector.replicate 12 2 }
    elems :=
      Vector.ofFn fun e : Fin 40 =>
        if e.val = 0 ∨ e.val = 2 then { ElemRecord.fresh with contact := .opened, lastReport := some 0 }
        else if e.val = 1 then { ElemRecord.fresh with motion := .atRest, position := some 9000, lastReport := some 0 }
        else ElemRecord.fresh
    corr := { State.reset.part.corr with config := { MonitorConfig.zero with w := 2 } }
    field :=
      { State.reset.part.field with
        link := { up := true, deadline := some 20 }
        sending := some { dst := 31, src := 0, kind := 1, payload := [0, 0] } }
    station := { State.reset.part.station with link := { up := true, deadline := some 20 } } }

/-- A change from pattern 0 to pattern 1. -/
def change : Change :=
  { fromPat := some 0, toPat := some 1, source := .mgmt, kind := .normal, cause := none, phase := .switching, moves := true,
    group := 0, phaseDeadline := some 2000, settleDeadline := some 3000, verify := 0, adopted := false }

/-- The sequencer of a part put into a state under pattern 0. -/
def under (m : Mode) (p : Part) : Part := { p with seq := { p.seq with mode := m, active := some 0 } }

/-- SWITCHING, in the dwell after the first group. -/
def changing : Part :=
  { under (.changing change) idle with
    walk := { state := .dwell, steps := [.complete], dwellDeadline := some 50 } }

/-- IN_PATTERN NORMAL of pattern 0 at full level. -/
def inPattern : Part :=
  { under .inPattern idle with
    ramp := { idle.ramp with level := 1000, target := 1000, lastReported := some 1000, inhibit := false, step := 100,
                             interval := 50, tolerance := 20 }
    table := { idle.table with quiet := false, quietRuns := Vector.replicate 12 0 } }

/-- IN_PATTERN NORMAL with a ramp to 500 in progress. -/
def ramping : Part :=
  { inPattern with
    ramp := { inPattern.ramp with target := 500, inProgress := true, deadline := some 2500, nextSend := some 50 } }

/-- HALTED. -/
def halted : Part := { idle with seq := { idle.seq with mode := .halted } }

/-- The machine with a part and an empty queue. -/
def on (p : Part) : State := { pending := [], part := p }

/-- The part after a command. -/
def ran (i : Instr) (p : Part) : Part :=
  match exec i (on p) with
  | .next t => t.part
  | _ => State.reset.part

/-- A command in flight for a contactor, CLOSE by the part, due at 300. -/
def closing : Command := { origin := .part, order := .contact .closed, deadline := 300, retries := 0, preset := false }

/-- A part with a command in flight for an element. -/
def flying (e : Elem) (c : Command) (p : Part) : Part :=
  { p with elems := p.elems.set e.val { p.elems[e] with command := some c } }

/-- A block whose 32 samples are (i, q). -/
def steady (i q : BitVec 16) : Block := { samples := List.replicate 32 { i := i, q := q }, overrange := false }

/-- A SAMPLE payload for block b with 32 samples whose I is n. -/
def samples (b n : Byte) : List Byte := [0, b, 0] ++ (List.replicate 32 [0, n, 0, 0]).flatten

/-- The part with one Pairing Store entry, of block 1. -/
def holding (r : Option Block) (p : Part) : Part :=
  { p with
    timer := { index := 1, deadline := 4 }
    store :=
      { p.store with
        entries := [{ index := 1, refTower := 0, epoch := true, refBlock := r, held := [], combined := [] }] } }

/-- The part with the input lines of a function. -/
def lined (f : Lines → Lines) (p : Part) : Part := { p with lines := f p.lines }

/-- `cfg` is in canonical form. -/
theorem test_configuration_is_canonical : cfg.wf = true := by decide

/-! ### Ill-formed commands -/

theorem test_wf_refuses_a_source_above_31 : (Instr.readReadings 32 0).wf = false := by decide

theorem test_wf_refuses_a_long_payload : (Instr.sampleArrival 1 (List.replicate 201 0)).wf = false := by decide

theorem test_wf_refuses_a_relayed_frame_for_node_23 :
    (Instr.fieldFrameRelay { dst := 23, src := 1, kind := 3, payload := [] }).wf = false := by decide

theorem test_wf_refuses_a_relayed_power_frame :
    (Instr.fieldFrameRelay { dst := 24, src := 1, kind := 5, payload := [] }).wf = false := by decide

theorem test_wf_refuses_a_relayed_frame_of_an_ill_formed_envelope :
    (Instr.fieldFrameRelay { dst := 24, src := 40, kind := 3, payload := [] }).wf = false := by decide

theorem test_wf_refuses_to_discard_a_sample :
    (Instr.fieldFrameDiscard { dst := 0, src := 1, kind := 2, payload := [] }).wf = false := by decide

theorem test_wf_refuses_an_envelope_that_passes :
    (Instr.frameEnvelopeFail .field { dst := 0, src := 1, kind := 2, payload := [7] : Frame }.wire).wf = false := by decide

theorem test_wf_refuses_a_short_block : (Instr.writeBlock 25 1 16 false [1, 2]).wf = false := by decide

theorem test_wf_refuses_a_known_request_as_unknown : (Instr.mgmtUnknown 25 [1, 9]).wf = false := by decide

theorem test_wf_refuses_an_element_command_for_node_15 :
    (Instr.stationElemCmdContactor 15 25 [0, 1, 0, 0]).wf = false := by decide

theorem test_wf_refuses_an_actuator_command_for_node_24 :
    (Instr.stationElemCmdActuator 24 25 [0, 3, 0, 0]).wf = false := by decide

theorem test_wf_refuses_an_element_command_without_a_channel :
    (Instr.stationElemCmdContactor 16 25 []).wf = false := by decide

theorem test_wf_refuses_a_forwarded_broadcast_command :
    (Instr.fieldBoundForward { dst := 31, src := 25, kind := 4, payload := [] }).wf = false := by decide

theorem test_wf_refuses_a_forwarded_report :
    (Instr.fieldBoundForward { dst := 5, src := 24, kind := 6, payload := [] }).wf = false := by decide

theorem test_wf_refuses_a_relayed_level :
    (Instr.stationFrameRelay { dst := 24, src := 25, kind := 5, payload := [0, 1] }).wf = false := by decide

theorem test_wf_refuses_to_discard_a_request :
    (Instr.stationFrameDiscard { dst := 0, src := 25, kind := 8, payload := [] }).wf = false := by decide

theorem test_wf_refuses_to_discard_a_frame_for_node_1 :
    (Instr.stationFrameDiscard { dst := 1, src := 25, kind := 9, payload := [] }).wf = false := by decide

theorem test_wf_accepts_a_sample : (Instr.sampleArrival 1 (samples 1 9)).wf = true := by decide

/-! ### Worked values of the spec -/

/-- R187: over the nine bytes 31 to 39 hex the register ends at 29B1 hex. -/
theorem test_crc_of_the_check_string :
    crc16 [0x31, 0x32, 0x33, 0x34, 0x35, 0x36, 0x37, 0x38, 0x39] = 0x29B1#16 := by decide

/-- No row of the table gives bits. -/
theorem test_no_word_spells_a_command : decodeTableWord 32 5 = none := rfl

/-- R48's table. -/
theorem test_phase_table :
    phaseOf 1000 0 = 0 ∧ phaseOf 0 1000 = 9000 ∧ phaseOf (-1000) 0 = -18000 ∧ phaseOf (-1000) (-1) = -17994 ∧
      phaseOf 0 0 = 0 := by decide

/-- R58's table, target 7350 at 30 per mille. -/
theorem test_ratio_tolerance_table :
    ratioInTol 7129 7350 30 = false ∧ ratioInTol 7130 7350 30 = true ∧ ratioInTol 7150 7350 30 = true ∧
      ratioInTol 7570 7350 30 = true ∧ ratioInTol 7571 7350 30 = false := by decide

/-- R59's table, tolerance 200. -/
theorem test_phase_tolerance_table :
    phaseInTol 11262 11250 200 = true ∧ phaseInTol (-17950) 17900 200 = true ∧ phaseInTol 17950 (-17900) 200 = true ∧
      phaseInTol (-18000) 17999 200 = true ∧ phaseInTol 9000 (-9000) 200 = false ∧ phaseInTol 0 17999 200 = false := by
  decide

/-- R14, R19: an erased staged bank has tower count 0, reported alone. -/
theorem test_commit_of_an_erased_bank :
    (ran (.commit 25 7) idle).station.replies = [{ dst := 25, src := 0, kind := 9, payload := [7, 3, 6, 0, 0, 2] }] := by
  decide

/-! ### One step of each command -/

/-- A reply of a request of node 25 with tag 7. -/
def reply (code result : Byte) (data : List Byte) : Frame := mgmtReply 25 7 code result data

theorem test_cold_reset_keeps_the_licence_region :
    (ran (.coldReset false) inPattern).tables.mem = [(0, 3), (1, 232), (64, 1), (65, 144)] ∧
      (ran (.coldReset true) inPattern).held = true := by decide

theorem test_block_timer_starts_block_1 :
    (ran .blockTimerExpiry idle).timer = { index := 1, deadline := 4 } ∧
      (ran .blockTimerExpiry idle).field.blockStart = some 1 := by decide

theorem test_sample_is_held_without_the_reference :
    (ran (.sampleArrival 2 (samples 1 1)) (holding none idle)).store.entries.map (fun e => e.held.map Prod.fst) = [[1]] ∧
      (ran (.sampleArrival 2 (samples 1 1)) (holding none idle)).table.quietRuns[1] = 3 := by decide

theorem test_sample_is_combined_with_the_reference :
    (ran (.sampleArrival 2 (samples 1 3)) (holding (some (steady 5 0)) idle)).corr.accums[1] =
      { re := 480, im := 0, p := 800, count := 1, limit := false, overrange := false } := by decide

theorem test_state_frame_closes_a_contactor :
    (ran (.stateFrame 16 [0, 2, 0, 0]) (flying 0 closing idle)).elems[0] =
      { ElemRecord.fresh with contact := .closed, lastReport := some 0 } := by decide

/-- A contactor in FAULT with a newer command reports FAULT again (the model's choice, log entry 53). -/
theorem test_repeated_fault_ends_a_newer_command :
    let s := ran (.stateFrame 16 [0, 4, 0, 0]) idle
    let t := ran (.stateFrame 16 [0, 4, 0, 0]) (flying 0 closing s)
    t.elems[0].command = none ∧ t.faults.records.map (fun r => (r.kind, r.repeats)) = [(.contactFault, 1)] := by decide

theorem test_field_relay_waits_behind_a_transmission :
    (ran (.fieldFrameRelay { dst := 24, src := 3, kind := 10, payload := [9] }) idle).station.queue =
      [{ frame := { dst := 24, src := 3, kind := 10, payload := [9] }, rampSince := false }] := by decide

theorem test_field_discard_counts_for_the_link :
    (ran (.fieldFrameDiscard { dst := 0, src := 3, kind := 5, payload := [] }) { idle with uptime := 9 }).field.link =
      { up := true, deadline := some 29 } := by decide

theorem test_envelope_failure_changes_nothing : ran (.frameEnvelopeFail .station [1, 2, 3]) idle = idle := by decide

theorem test_read_block_58_and_59 :
    (ran (.readBlock 25 7 58) idle).station.replies = [reply 1 0 (List.replicate 64 0)] ∧
      (ran (.readBlock 25 7 59) idle).station.replies = [reply 1 2 []] := by decide

theorem test_write_block_of_a_staged_block :
    (ran (.writeBlock 25 7 16 false (List.replicate 64 3)) idle).tables.staged = .editing ∧
      (ran (.writeBlock 25 7 16 false (List.replicate 64 3)) idle).tables.mem.read 1087 = 3 := by decide

theorem test_licence_write_completes :
    (ran .licenceWriteComplete (ran (.writeBlock 25 7 2 true (List.replicate 64 1)) idle)).tables.licenceWrite = none ∧
      (ran (.writeBlock 25 7 2 true (List.replicate 64 1)) idle).tables.licenceWrite.isSome = true := by decide

theorem test_change_enters_switching :
    (ran (.change 25 7 1) idle).phase? = some .switching ∧
      (ran (.change 25 7 1) idle).elems[0].command.map Command.order = some (.contact .closed) := by decide

theorem test_stop_ramps_down : (ran (.stop 25 7) inPattern).phase? = some .rampDown := by decide

theorem test_abort_turns_back :
    (ran (.abort 25 7) changing).change?.map (fun c => (c.toPat, c.kind, c.cause)) =
      some (some 0, .revert, some .abort) := by decide

theorem test_recover_leaves_halted : (ran (.recover 25 7) halted).seq.mode = .stopped := by decide

theorem test_read_status_clears_any_overrun :
    (ran (.readStatus 25 7 true) { idle with seq := { idle.seq with anyOverrun := true } }).seq.anyOverrun = false := by
  decide

theorem test_read_readings_is_161_bytes :
    (ran (.readReadings 25 7) idle).station.replies.map (fun f => f.payload.length) = [164] := by decide

theorem test_read_faults_of_an_empty_list :
    (ran (.readFaults 25 7 0) idle).station.replies = [reply 10 0 [0, 0]] := by decide

theorem test_clear_faults_counts_the_removed :
    (ran (.clearFaults 25 7) (idle.recorded .aborted .nothing .d)).station.replies = [reply 11 0 [1]] := by decide

theorem test_reset_in_pattern_is_refused : (ran (.reset 25 7) inPattern).station.replies = [reply 12 14 []] := by decide

theorem test_reset_in_stopped_restarts_the_uptime :
    (ran (.reset 25 7) { idle with uptime := 77 }).uptime = 0 ∧ (ran (.reset 25 7) idle).station.power = some 0 := by
  decide

theorem test_unknown_request : (ran (.mgmtUnknown 25 [7, 77]) idle).station.replies = [reply 77 15 []] := by decide

theorem test_time_sets_the_clock :
    (ran (.time 25 [7, 232, 2, 29, 23, 59, 59]) idle).clock =
      { time := some { year := 2024, month := 2, day := 29, hour := 23, minute := 59, second := 59 },
        second := some 1000 } := by decide

theorem test_clock_second_over_a_leap_day :
    (ran .clockSecond (ran (.time 25 [7, 232, 2, 29, 23, 59, 59]) idle)).clock =
      { time := some { year := 2024, month := 3, day := 1, hour := 0, minute := 0, second := 0 },
        second := some 2000 } := by decide

theorem test_transmitter_report_is_recorded :
    (ran (.txState 30 [4, 0]) idle).ramp.lastReported = some 1024 := by decide

theorem test_station_contactor_command_is_forwarded :
    (ran (.stationElemCmdContactor 16 25 [0, 2, 0, 0]) idle).elems[0].command =
      some { origin := .station, order := .contact .closed, deadline := 300, retries := 0, preset := false } := by decide

theorem test_station_actuator_command_below_its_limits_is_refused :
    (ran (.stationElemCmdActuator 16 25 [1, 3, 19, 135]) idle).station.replies =
      [{ dst := 25, src := 0, kind := 11, payload := [4, 16, 2] }] := by decide

theorem test_broadcast_command_is_refused :
    (ran (.broadcastElemCmd 25 [0, 1, 0, 0]) idle).station.replies =
      [{ dst := 25, src := 0, kind := 11, payload := [4, 31, 2] }] := by decide

theorem test_field_bound_frame_waits :
    (ran (.fieldBoundForward { dst := 3, src := 25, kind := 10, payload := [] }) idle).field.queue =
      [{ frame := { dst := 3, src := 25, kind := 10, payload := [] }, owner := none }] := by decide

theorem test_station_power_is_clamped :
    (ran (.stationPower 25 [255, 255]) { inPattern with ramp := { inPattern.ramp with level := 200 } }).ramp.level =
      1000 := by decide

theorem test_station_relay_waits :
    (ran (.stationFrameRelay { dst := 30, src := 25, kind := 10, payload := [1] }) idle).station.queue.length = 1 := by
  decide

theorem test_station_discard_counts_for_the_link :
    (ran (.stationFrameDiscard { dst := 0, src := 25, kind := 1, payload := [] }) { idle with uptime := 9 }).station.link =
      { up := true, deadline := some 29 } := by decide

theorem test_trip_degrades :
    (ran .txTripAssert inPattern).seq.mode = .inPattern ∧ (ran .txTripAssert inPattern).seq.sub = .degraded ∧
      (ran .txTripAssert inPattern).ramp.target = 100 := by decide

theorem test_trip_release_ends_the_record :
    (ran .txTripRelease (ran .txTripAssert inPattern)).faults.records.map FaultRecord.active = [false] := by decide

theorem test_local_lines :
    (ran .localAssert idle).lines.localOn = true ∧ (ran .localRelease (ran .localAssert idle)).lines.localOn = false := by
  decide

theorem test_panel_go_with_local_starts_a_change :
    (ran (.panelGo 1) (ran .localAssert idle)).phase? = some .switching ∧ (ran (.panelGo 1) idle).seq.mode = .stopped := by
  decide

theorem test_panel_stop_waits_while_changing :
    (ran .panelStop (ran .localAssert changing)).seq.slot = some { source := .panel, target := none } := by decide

theorem test_silence_makes_a_contactor_unknown :
    (ran (.silenceDeadline 0) idle).elems[0].contact = .unknown ∧ (ran (.silenceDeadline 0) idle).uptime = 500 := by decide

theorem test_command_deadline_resends_once :
    (ran (.commandDeadline 0) (flying 0 closing idle)).elems[0].command = some { closing with retries := 1, deadline := 600 } := by
  decide

theorem test_dwell_end_starts_the_second_group :
    (ran .dwellEnd changing).elems[2].command.map Command.order = some (.contact .closed) := by decide

theorem test_phase_deadline_reverts : (ran .phaseDeadline changing).change?.map Change.kind = some .revert := by decide

theorem test_settle_deadline_reverts : (ran .settleDeadline changing).change?.map Change.kind = some .revert := by decide

theorem test_ramp_send_moves_one_step :
    (ran .rampSend ramping).ramp.level = 900 ∧ (ran .rampSend ramping).station.power = some 900 := by decide

theorem test_ramp_deadline_degrades : (ran .rampDeadline ramping).seq.sub = .degraded := by decide

theorem test_link_deadline_takes_a_port_down :
    (ran (.linkDeadline .station) idle).station.link = { up := false, deadline := none } ∧
      (ran (.linkDeadline .field) idle).pins.fault = true := by decide

theorem test_schedule_evaluation_is_no_longer_due :
    (ran .scheduleEvaluation { idle with sched := { idle.sched with evalDue := true } }).sched.evalDue = false := by decide

theorem test_transmission_end_takes_the_reply_first :
    (ran (.transmissionEnd .station) (ran (.readFaults 25 7 0) { idle with station := { idle.station with power := some 0 } })
      ).station.sending = some (reply 10 0 [0, 0]) := by decide

theorem test_reset_n_release_sends_power_0 :
    (ran (.resetNRelease State.reset.part.lines) (ran (.coldReset true) idle)).station.sending =
      some { dst := 24, src := 0, kind := 5, payload := [0, 0] } := by decide

theorem test_idle_step_takes_the_due_block_timer :
    step { pending := [], part := { idle with uptime := 2 } } =
      .next { pending := [.blockTimerExpiry], part := { idle with uptime := 2 } } := rfl

theorem test_step_takes_the_front : step { pending := [.dwellEnd], part := idle } = exec .dwellEnd (on idle) := rfl

/-! ### Witnesses: for every statement with hypotheses, states and operands that meet them, clause by clause -/

/-- A part held in reset by RESET_N. -/
def held : Part := ran (.coldReset true) idle

/-- A part with a licence write of pattern 2 in flight. -/
def writing : Part := ran (.writeBlock 25 7 2 true (List.replicate 64 1)) idle

/-- A staged bank that COMMIT passes, with the licence it is judged by. -/
def staged : Memory :=
  [(0, 3), (1, 232), (3, 200), (4, 11), (5, 184), (7, 200), (8, 11), (9, 184),
   (64, 1), (65, 144), (67, 200), (68, 11), (69, 184), (71, 200), (72, 11), (73, 184)] ++
    (cfg.filter fun c => decide (5120 ≤ c.1)).map fun c => (c.1 - 4096, c.2)

/-- The staged bank and the active bank of `cfg` under the licence of `staged`. -/
def both : Memory := staged ++ cfg.filter fun c => decide (5120 ≤ c.1)

/-- A part with `both`, some bytes of it replaced, and the staged bank READY. -/
def ready (l : List (Nat × Byte)) (p : Part) : Part :=
  { p with tables := { mem := l.foldl (fun m c => m.write c.1 c.2) both, licenceWrite := none, staged := .ready } }

/-- `staged` with some bytes replaced. -/
def spoilt (l : List (Nat × Byte)) : Memory := l.foldl (fun m c => m.write c.1 c.2) staged

/-- A part under `cfg` with an entry of pattern 0 for actuator 1: tower 1's ratio, sense 1, gain 512, deadband 10, largest
step 40, preset 28500. -/
def trimmed (p : Part) : Part :=
  { p with tables := { p.tables with mem := p.tables.mem.writeBytes 5688 [1, 1, 1, 1, 2, 0, 0, 10, 0, 40, 111, 84] } }

/-- A part whose unit 16 is silent: no element of it has reported. -/
def deaf (p : Part) : Part := { p with elems := State.reset.part.elems }

/-- A part with a reading of a tower. -/
def reads (k : Tower) (r : Reading) (p : Part) : Part :=
  { p with table := { p.table with readings := p.table.readings.set k.val r } }

/-- A VALID reading at ratio 10000 and phase 0. -/
def onTarget : Reading := { Reading.fresh with state := .valid, ratio := 10000 }

/-- A part that holds the reference block of block 1, with the targets of pattern 0, tower 0 covered and on target, and one
block missing in tower 1's window of four. -/
def rounding (p : Part) : Part :=
  let s := reads 0 onTarget (holding (some (steady 5 0)) p)
  { s with
    round := { s.round with coverage := [0] }
    corr :=
      { config := { s.bank.patternConfig 0 with w := 2, s := 0 }
        accums := s.corr.accums.set 1 { Accum.clear with count := 3 } } }

/-- A phase of a change from pattern 1 to pattern 0. -/
def phased (ph : Phase) (p : Part) : Part :=
  let s := under (.changing { change with fromPat := some 1, toPat := some 0, phase := ph }) p
  { s with ramp := { inPattern.ramp with level := 200, target := 200 } }

/-- DEGRADED at the degraded level, with a class C record ACTIVE or not. -/
def degraded (l : List FaultRecord) : Part :=
  { inPattern with
    seq := { inPattern.seq with sub := .degraded }
    ramp := { inPattern.ramp with level := 100, target := 100 }
    faults := { inPattern.faults with records := l } }

/-- A frame that the station queues for contactor 0. -/
def close0 : Frame := { dst := 16, src := 25, kind := 4, payload := [0, 2, 0, 0] }

/-- A frame that the station queues for a node without elements. -/
def other : Frame := { dst := 3, src := 25, kind := 10, payload := [1] }

/-- A CHANGE to pattern 1 has just adopted a bank that enables the schedule, whose pattern in force is 1. -/
def enabled : Part :=
  ran (.change 25 7 1) { ready [(1069, 1), (7938, 1), (7939, 1)] idle with
    clock := { time := some { year := 2024, month := 1, day := 2, hour := 0, minute := 0, second := 0 }, second := none } }

theorem witness_EveryCommandAnswersANextState :
    held.held = true ∧ enabled.held = false ∧ enabled.sched.evalDue = true ∧ enabled.tables.staged ≠ .ready := by decide

/-- R182: the evaluation that the promotion caused meets CHANGING with LOCAL released, whatever command comes next. -/
theorem test_evaluation_of_a_promotion_comes_first :
    enabled.seq.slot = none ∧ (ran .scheduleEvaluation enabled).seq.slot = some { source := .schedule, target := some 1 } ∧
      (ran .localAssert enabled).seq.slot = some { source := .schedule, target := some 1 } ∧
      (ran .localAssert enabled).sched.owed = false ∧ (ran .localAssert enabled).lines.localOn = true := by decide

theorem witness_IdleStepPassesTimeOrTakesAnExpiry :
    (on held).pending = [] ∧ held.held = true ∧ idle.held = false ∧ idle.expiries = [] ∧
      { idle with uptime := 2 }.expiries = [.blockTimerExpiry] ∧
      { enabled with uptime := 2 }.expiries = [.scheduleEvaluation] := by decide

theorem witness_LinesFollowTheStateAfterEveryCommand :
    idle.PinsSound ∧ exec .panelStop (on idle) = .next (on (ran .panelStop idle)) := ⟨by decide, rfl⟩

theorem witness_ResetsEndWithPowerZero :
    cfg.wf = true ∧ writing.tables.mem.wf = true ∧
      writing.tables.licenceWrite.map (fun w => w.old.length) = some 64 ∧
      held.held = true ∧ held.raised = [] ∧ held.seq.mode = .stopped ∧ held.station.sending = none ∧
      held.station.replies = [] ∧ held.room .txTrip .nothing ∧ idle.taking ∧
      (lined (fun l => { l with txTrip := true }) idle).lines.txTrip = true := by decide

theorem witness_ResetRequestMakesAWarmReset :
    idle.taking ∧ idle.lines.txTrip = false ∧ idle.seq.mode = .stopped ∧ halted.seq.mode = .halted ∧
      inPattern.seq.mode ≠ .stopped ∧ inPattern.seq.mode ≠ .halted ∧
      writing.tables.licenceWrite.map (fun w => decide (2147483648 ≤ (writing.uptime - w.deadline).toNat)) = some true := by
  decide

theorem witness_BlockAccessIsCheckedAndAnswered :
    idle.taking ∧ (List.replicate 64 (0 : Byte)).length = 64 ∧
      (3 < (4 : Byte).toNat ∧ (4 : Byte).toNat < 16) ∧ 126 < (127 : Byte).toNat ∧
      (80 ≤ (122 : Byte).toNat ∧ (122 : Byte).toNat ≤ 122) ∧ (3 : Byte).toNat ≤ 3 ∧
      writing.tables.licenceWrite ≠ none := by decide

theorem witness_AcceptedWriteReplacesTheBlock :
    idle.taking ∧ (List.replicate 64 (9 : Byte)).length = 64 ∧ idle.tables.mem.wf = true ∧
      (16 ≤ (58 : Byte).toNat ∧ (58 : Byte).toNat ≤ 58) ∧ (124 ≤ (124 : Byte).toNat ∧ (124 : Byte).toNat ≤ 126) ∧
      idle.bank.scheduleEnable = false := by decide

theorem witness_LicenceWritesTakeEffectAtOnce :
    inPattern.taking ∧ (List.replicate 64 (9 : Byte)).length = 64 ∧ inPattern.tables.mem.wf = true ∧
      (3 : Byte).toNat = (3 : Pat).val ∧ inPattern.tables.licenceWrite = none ∧ inPattern.governing ≠ some 3 ∧
      (0 : Byte).toNat = (0 : Pat).val ∧ inPattern.governing = some 0 ∧ inPattern.ramp.inProgress = false ∧
      inPattern.stationBusy ∧ writing.taking ∧ writing.tables.licenceWrite.isSome = true := by decide

/-- R144: a licence of 400 leaves the ramp from 1000 to 500 in progress with its deadline where the transmitter is out of
tolerance, and completes it where it is within; a ramp to the trim level that it completes ends RAMP_TO_TRIM. -/
theorem witness_LicenceWritesTakeEffectAtOnce_ramp :
    let write := Instr.writeBlock 25 7 0 true ([1, 144] ++ List.replicate 62 0)
    let near := { ramping with ramp := { ramping.ramp with lastReported := some 410 } }
    let clamped := fun r : RampEngine => { r with level := min r.level 400, target := min r.target 400 }
    let q := phased .rampToTrim idle
    let t := { q with ramp := { q.ramp with level := 450, target := 500, inProgress := true, lastReported := some 400 } }
    ramping.governing = some 0 ∧ ¬(clamped ramping.ramp).Complete ∧ (ran write ramping).ramp = clamped ramping.ramp ∧
      (clamped near.ramp).Complete ∧ (ran write near).ramp = (clamped near.ramp).completed ∧ t.taking ∧
      t.governing = some 0 ∧ t.seq.slot = none ∧ (clamped t.ramp).Complete ∧ (ran write t).phase? = some .trimming := by
  decide

theorem witness_CommitReportsTheLowestViolation :
    idle.taking ∧ staged.validate = none ∧ cfg.validate = some { pos := 0, reason := .towerCount } ∧
      (cfg.read 1024).toNat < 2 := by decide

/-- R12: a TSU node out of range, and two equal ones. -/
theorem witness_CommitReportsTheLowestViolation_sites :
    (spoilt [(1025, 0)]).validate = some { pos := 1, reason := .range } ∧
      (spoilt [(1025, 2)]).validate = some { pos := 2, reason := .nodeClash } := by decide

/-- R14: the role of the reference tower, a level above the licence, levels out of order, a tolerance above the licence. -/
theorem witness_CommitReportsTheLowestViolation_patterns :
    (spoilt [(1496, 2)]).validate = some { pos := 449, reason := .refRole } ∧
      (spoilt [(0, 3), (1, 231)]).validate = some { pos := 450, reason := .levelOverLicence } ∧
      (spoilt [(1796, 1), (1797, 145)]).validate = some { pos := 772, reason := .levelOrder } ∧
      (spoilt [(7, 29)]).validate = some { pos := 485, reason := .tolOverLicence } := by decide

/-- R13: thirty-three contactors. -/
theorem witness_CommitReportsTheLowestViolation_elements :
    (spoilt ((List.range 33).flatMap fun e =>
      [(1152 + 8 * e, BitVec.ofNat 8 (96 + e % 16)), (1153 + 8 * e, BitVec.ofNat 8 (16 + e / 16)),
       (1154 + 8 * e, 30)])).validate = some { pos := 384, reason := .elementLimit } := by decide

/-- Entry 0 of pattern 0 for an element, with a preset, and an entry 1 for another. -/
def spoiltEntries (e f : Byte) (hi lo : Byte) : Memory :=
  (staged.writeBytes 1592 [e, 1, 1, 1, 2, 0, 0, 10, 0, 40, hi, lo]).writeBytes 1604 [f, 1, 1, 1, 2, 0, 0, 10, 0, 40, 111, 84]

/-- R16: an entry for a contactor, one actuator twice, a preset below the limits. -/
theorem witness_CommitReportsTheLowestViolation_actuators :
    (spoiltEntries 0 255 111 84).validate = some { pos := 568, reason := .elementKind } ∧
      (spoiltEntries 1 1 111 84).validate = some { pos := 580, reason := .actuatorTwice } ∧
      (spoiltEntries 1 255 19 135).validate = some { pos := 578, reason := .presetRange } := by decide

/-- R17: groups out of order, one contactor three times, and a last action against the contactor set, each way. -/
theorem witness_CommitReportsTheLowestViolation_lists :
    (spoilt [(3014, 3)]).validate = some { pos := 1994, reason := .groupOrder } ∧
      (spoilt [(3008, 3), (3016, 0), (3017, 1), (3020, 0), (3021, 2), (3022, 3)]).validate =
        some { pos := 1996, reason := .listRepeat } ∧
      (spoilt [(3017, 1)]).validate = some { pos := 1992, reason := .listFinal } ∧
      (spoilt [(2757, 2)]).validate = some { pos := 1732, reason := .listFinal } := by decide

theorem witness_BlockTimerExpiryStartsOneBlock :
    idle.taking ∧ idle.field.sending ≠ none ∧ State.reset.part.taking ∧
      State.reset.part.field.sending = none ∧ State.reset.part.bank.towerCount = 0 ∧
      { State.reset.part with field := idle.field }.store.entries.length < 8 ∧
      { State.reset.part with field := idle.field }.fieldBusy ∧
      (∀ e ∈ State.reset.part.store.entries, e.index ≠ State.reset.part.timer.index + 1) := by decide

/-- R22, R24: an entry still open for an index that comes round again is evicted. -/
theorem test_index_that_comes_round_evicts_its_entry :
    let s := holding none idle
    let t := ran .blockTimerExpiry { s with timer := { s.timer with index := 0 } }
    t.store.entries.map Entry.index = [1] ∧ t.table.quietRuns[1] = 0 ∧ t.table.quiet = false := by decide

theorem witness_ReadingsAgeAtEachBlockStart :
    let s := reads 1 { onTarget with age := 16 } inPattern
    idle.taking ∧ idle.seq.mode = .stopped ∧ idle.bank.installed 1 = true ∧ idle.bank.installed 2 = false ∧
      s.taking ∧ s.store.entries = [] ∧ s.bank.installed 1 = true ∧ s.table.readings[1].state ≠ .stale ∧
      4 * 2 ^ s.corr.config.w < upTo 65535 s.table.readings[1].age ∧
      (∀ j : Tower, j ≠ 1 → upTo 65535 s.table.readings[j].age ≤ 4 * 2 ^ s.corr.config.w) ∧
      s.room .towerStale (.tower 1) ∧ s.seq.mode = .inPattern := by decide

theorem witness_SampleThatPairsNothing :
    idle.taking ∧ idle.field.link.up = true ∧
      (∀ k : Tower, idle.bank.installed k = true → idle.bank.tsuNode k ≠ (3 : Byte).toNat) ∧
      [(1 : Byte)].length ≠ 131 ∧ (samples 1 1).length = 131 ∧ idle.bank.towerOfNode 2 = some 1 ∧ idle.stationBusy ∧
      (∀ e ∈ idle.store.entries, e.index ≠ 0) ∧ ((32767 : BitVec 16) - 0).toNat ≤ 32767 ∧
      32768 ≤ ((32768 : BitVec 16) - 0).toNat ∧ (idle.timer.index - 0).toNat ≤ 32767 ∧ idle.room .sampleSequence (.tower 1) ∧
      (holding (some (steady 1 1)) idle).entryOf 1 =
        some { index := 1, refTower := 0, epoch := true, refBlock := some (steady 1 1), held := [], combined := [] } ∧
      idle.bank.towerOfNode 1 = some 0 := by decide

theorem witness_SampleWithoutReferenceIsHeld :
    let s := holding none idle
    s.taking ∧ s.field.link.up = true ∧ (samples 1 1).length = 131 ∧ s.bank.towerOfNode 2 = some 1 ∧
      s.bank.forwardSamples 1 = false ∧ s.seq.mode = .stopped ∧ (∀ x : Elem, s.elems[x].contactInFlight = false) ∧
      s.store.entries.Pairwise (fun x y => x.index ≠ y.index) ∧
      (∀ e ∈ s.store.entries, e.index = (samples 1 1).getD 0 0 ++ (samples 1 1).getD 1 0 ∧ e.refBlock = none ∧
        1 ≠ e.refTower ∧ e.held = [] ∧ e.combined = []) ∧ s.store.entries.length = 1 := by decide

theorem witness_LosingQuietWithAContactorMovingHalts :
    let s := holding none (flying 0 closing idle)
    s.taking ∧ (samples 1 9).length = 131 ∧ s.bank.towerOfNode 2 = some 1 ∧ s.seq.mode ≠ .halted ∧
      s.elems[0].command = some closing ∧ closing.order.isContact = true ∧ s.table.quiet = true ∧
      s.store.entries.Pairwise (fun y z => y.index ≠ z.index) ∧
      (∀ e ∈ s.store.entries, e.index = (samples 1 9).getD 0 0 ++ (samples 1 9).getD 1 0 ∧ e.refBlock = none ∧
        1 ≠ e.refTower ∧ e.held = [] ∧ e.combined = []) ∧ s.store.entries.length = 1 ∧
      (s.bank.quietLevel : Int) < (blockOf (samples 1 9)).power ∧
      (∀ y : Elem, y ≠ 0 → s.elems[y].contactInFlight = false) ∧ s.faults.records = [] := by decide

/-- A tower's own block joins a stored reference block; the reference block arrives to a held tower, in an EPOCH entry and
in another, and to none. -/
theorem witness_CombinedSampleIsAccumulated :
    let s := holding (some (steady 5 0)) idle
    let h := holding none idle
    let entry := fun (epoch : Bool) (l : List (Tower × Block)) =>
      ({ index := 1, refTower := 0, epoch := epoch, refBlock := none, held := l, combined := [] } : Entry)
    let r := fun e : Entry => { h with store := { h.store with entries := [e] } }
    s.taking ∧ (samples 1 3).length = 131 ∧ s.bank.towerOfNode 2 = some 1 ∧ s.seq.mode = .stopped ∧
      s.store.entries.Pairwise (fun y z => y.index ≠ z.index) ∧
      (∀ e ∈ s.store.entries, e.index = (samples 1 3).getD 0 0 ++ (samples 1 3).getD 1 0 ∧
        e.refBlock = some (steady 5 0) ∧ e.epoch = true ∧ 1 ≠ e.refTower ∧ e.held = [] ∧ e.combined = []) ∧
      s.store.entries.length = 1 ∧ s.corr.accums[1].count + 1 < 2 ^ s.corr.config.w ∧
      h.bank.towerOfNode 1 = some 0 ∧ h.corr.accums[0].count + 1 < 2 ^ h.corr.config.w ∧
      ([(1, steady 3 0)] : List (Tower × Block)).Pairwise (fun y z => y.1 ≠ z.1) ∧
      0 ∉ (entry true [(1, steady 3 0)]).combined ∧
      (ran (.sampleArrival 1 (samples 1 5)) (r (entry true [(1, steady 3 0)]))).corr.accums[1].re = 480 ∧
      (ran (.sampleArrival 1 (samples 1 5)) (r (entry true [(1, steady 3 0)]))).store.entries = [] ∧
      (ran (.sampleArrival 1 (samples 1 5)) (r (entry false [(1, steady 3 0)]))).corr.accums[1].re = 0 ∧
      (ran (.sampleArrival 1 (samples 1 5)) (r (entry true []))).store.entries =
        [{ entry true [] with refBlock := some (steady 5 0) }] := by decide

/-- The combining part one block before its window of 4 closes, with a power sum so far. -/
def closing3 (p : Int) : Part :=
  let s := holding (some (steady 5 0)) idle
  { s with corr := { s.corr with accums := s.corr.accums.set 1 { Accum.clear with p := p, count := 3 } } }

/-- A window with a signal and one without, one with LIMIT, one with OVERRANGE, and the reference tower's. -/
theorem witness_WindowCloseWritesTheReading :
    let s := closing3 0
    let t := closing3 (-800)
    let x := blockOf (samples 1 3)
    let limited := { Accum.clear with p := 549755813887, count := 3 }.addCross 0 (steady 5 0) x
    let o := { Accum.clear with count := 3, overrange := true }.addCross 0 (steady 5 0) x
    let h := holding none idle
    let r := { h with corr := { h.corr with accums := h.corr.accums.set 0 { Accum.clear with count := 3 } } }
    s.taking ∧ s.seq.mode = .stopped ∧ (1 : Tower) ≠ s.corr.config.refTower ∧
      (∀ e ∈ s.store.entries, e.index = (samples 1 3).getD 0 0 ++ (samples 1 3).getD 1 0 ∧
        e.refBlock = some (steady 5 0) ∧ e.epoch = true ∧ 1 ≠ e.refTower ∧ e.held = [] ∧ e.combined = []) ∧
      (s.corr.accums[1].addCross s.corr.config.s (steady 5 0) x).count = 2 ^ s.corr.config.w ∧
      (s.bank.signalFloor : Int) ≤ (s.corr.accums[1].addCross 0 (steady 5 0) x).p ∧
      (t.corr.accums[1].addCross 0 (steady 5 0) x).p < (t.bank.signalFloor : Int) ∧
      limited.limit = true ∧ (s.bank.signalFloor : Int) ≤ limited.p ∧ limited.count = 4 ∧
      o.overrange = true ∧ o.limit = false ∧ (s.bank.signalFloor : Int) ≤ o.p ∧ o.count = 4 ∧
      r.bank.towerOfNode 1 = some 0 ∧ (0 : Tower) = r.corr.config.refTower ∧
      (∀ e ∈ r.store.entries, e.refBlock = none ∧ 0 = e.refTower ∧ e.held = [] ∧ e.combined = [] ∧ e.epoch = true) ∧
      (r.corr.accums[0].addSelf r.corr.config.s x).count = 2 ^ r.corr.config.w := by decide

/-- R49: LIMIT gives a CLIPPED reading. -/
theorem test_limit_clips_the_reading :
    (ran (.sampleArrival 2 (samples 1 3)) (closing3 549755813887)).table.readings[1].state = .clipped ∧
      (ran (.sampleArrival 2 (samples 1 3)) (closing3 (-800))).table.readings[1].state = .noSignal := by decide

theorem witness_MagnitudeAndRatioAreExact :
    magnitude (-549755813888) (-549755813888) < 1099511627776 ∧ ratioOf 1 2 = 5000 ∧ ratioOf 7 1 = 65535 := by decide

theorem witness_PhaseIsTheNearestCentidegree :
    ((0 : Int) = 0 ∧ (0 : Int) = 0) ∧ ((-1000 : Int) ≠ 0 ∨ (-1 : Int) ≠ 0) ∧ phaseOf (-1000) (-1) = -17994 := by decide

theorem witness_ToleranceTestsAreExact :
    let x : TowerTarget := { role := .lit, ratio := 7350, phase := 17999, ratioTol := 30, phaseTol := 200 }
    let r : Reading := { Reading.fresh with state := .valid, ratio := 7570, phase := -18000 }
    x.role = .lit ∧ -18000 ≤ r.phase ∧ r.phase ≤ 17999 ∧ -18000 ≤ x.phase ∧ x.phase ≤ 17999 ∧
      r.passes x false = true ∧ { x with role := .dark }.role = .dark := by decide

theorem witness_RoundCompletionGivesTheVerdict :
    idle.bank.installed 1 = true ∧ idle.corr.config.targets = none ∧ halted.seq.mode = .halted ∧
      (inPattern.bank.patternConfig 0).targets.isSome = true ∧ inPattern.seq.mode ≠ .halted := by decide

/-- What the statement of a round's completion asks of a part, before tower 1's block of index 1. -/
abbrev completing (s : Part) : Prop :=
  s.taking ∧ s.bank.towerOfNode 2 = some 1 ∧ s.store.entries.Pairwise (fun y z => y.index ≠ z.index) ∧
    (∀ e ∈ s.store.entries, e.index = 1 ∧ e.refBlock = some (steady 5 0) ∧ e.epoch = true ∧ 1 ≠ e.refTower ∧
      e.held = [] ∧ e.combined = []) ∧ s.store.entries.length = 1 ∧
    s.corr.accums[1].count + 1 = 2 ^ s.corr.config.w ∧ s.corr.config.targets.isSome = true ∧
    s.table.readings[1].state ≠ .stale ∧ s.bank.actuatorEntries 0 = [] ∧
    (∀ x : Elem, s.elems[x].command = none) ∧
    (∀ j : Tower, s.bank.installed j = true → j = 1 ∨ j ∈ s.round.coverage)

/-- Rounds in and out of tolerance in STOPPED, IN_PATTERN NORMAL, TRIMMING and VERIFYING. -/
theorem witness_RoundCompletionActsOnTheVerdict :
    (samples 1 5).length = 131 ∧ idle.station.link.up = true ∧ idle.stationBusy ∧
      ∀ p ∈ [idle, inPattern, phased .trimming idle, phased .verifying idle],
        completing (rounding p) ∧
          (ran (.sampleArrival 2 (samples 1 5)) (rounding p)).round.last = .inTol ∧
          (ran (.sampleArrival 2 (samples 1 3)) (rounding p)).round.last = .outTol := by decide

/-- The run at the grace and past it, DEGRADED with and without a class C record, and a verify count at its rounds. -/
theorem witness_RoundCompletionActsOnTheVerdict_clauses :
    let marked := degraded ((inPattern.recorded .txTrip .nothing .c).faults.records)
    inPattern.seq.active = some 0 ∧ inPattern.lines.txTrip = false ∧ inPattern.seq.ootRun + 1 = inPattern.bank.ootGrace 0 ∧
      2 ≠ inPattern.bank.ootGrace 0 ∧ (degraded []).seq.sub = .degraded ∧
      marked.faults.records.map (fun r => (r.active, r.cls)) = [(true, .c)] ∧
      inPattern.bank.verifyRounds 0 ≤ upTo 15 (degraded []).seq.restore ∧
      (phased .trimming idle).ramp.level ≠ min (idle.bank.operatingLevel 0) (idle.tables.mem.licensedLevel 0) ∧
      1 < ({ idle with tables := { idle.tables with mem := cfg.write 5578 2 } } : Part).bank.verifyRounds 0 := by decide

/-- R69, R70, R95: a round out of tolerance at the grace of 1. -/
theorem test_round_out_of_tolerance_degrades :
    let t := ran (.sampleArrival 2 (samples 1 3)) (rounding inPattern)
    t.seq.sub = .degraded ∧ t.seq.ootRun = 1 ∧ t.faults.records.map FaultRecord.kind = [.outOfTolerance] := by decide

/-- R70, R154: a run that has raised does not raise at a grace that a promotion has raised. -/
theorem test_out_of_tolerance_is_raised_once_in_a_run :
    let s := ran (.sampleArrival 2 (samples 1 3)) (rounding inPattern)
    let later := { s with tables := { s.tables with mem := s.tables.mem.write 5583 2 } }
    let t := ran (.sampleArrival 2 (samples 1 3)) (rounding later)
    s.seq.ootRaised = true ∧ later.bank.ootGrace 0 = 2 ∧ t.seq.ootRun = 2 ∧
      t.faults.records.map (fun r => (r.kind, r.repeats)) = [(.outOfTolerance, 0)] := by decide

/-- R96: one verify round restores NORMAL, and none while a class C record is ACTIVE. -/
theorem test_round_in_tolerance_restores :
    (ran (.sampleArrival 2 (samples 1 5)) (rounding (degraded []))).seq.sub = .normal ∧
      (ran (.sampleArrival 2 (samples 1 5))
        (rounding (degraded (inPattern.recorded .txTrip .nothing .c).faults.records))).seq.sub = .degraded := by decide

/-- R84, R85: one verify round in TRIMMING leads to RAMP_FINAL, and OUT_TOL in VERIFYING back to TRIMMING. -/
theorem test_rounds_move_the_change_on :
    (ran (.sampleArrival 2 (samples 1 5)) (rounding (phased .trimming idle))).phase? = some .rampFinal ∧
      (ran (.sampleArrival 2 (samples 1 3)) (rounding (phased .verifying idle))).phase? = some .trimming := by decide

/-- What the clauses of an adopting acceptance ask, beside the target. -/
abbrev adopting (s : Part) : Prop :=
  s.taking ∧ s.lines.localOn = false ∧ s.lines.txTrip = false ∧ s.adopts ∧ s.tables.mem.wf = true ∧
    (s.keepsTowers ∨ ∀ e : Elem, s.elems[e].contactInFlight = false) ∧ s.stationBusy ∧ s.fieldBusy ∧
    s.station.replies.length < 8

theorem witness_RefusedRequestsHaveNoEffect :
    idle.taking ∧ idle.lines.localOn = false ∧ (lined (fun l => { l with localOn := true }) idle).lines.localOn = true ∧
      halted.seq.mode = .halted ∧ idle.seq.mode = .stopped ∧ inPattern.seq.mode = .inPattern ∧
      idle.tables.staged ≠ .ready ∧ 3 < (4 : Byte).toNat ∧ (2 : Byte).toNat = (2 : Pat).val ∧
      idle.bank.patDefined 2 = false ∧ (1 : Byte).toNat = (1 : Pat).val ∧ idle.bank.patDefined 1 = true ∧
      { deaf idle with tables := { idle.tables with mem := cfg.write 7104 0 } }.reachable 1 =
        false ∧ changing.seq.mode = .changing change := by decide

/-- The READY bank adopted with the towers kept and with a TSU node changed, in STOPPED and IN_PATTERN, and a target that
the adopted bank makes unreachable. -/
theorem witness_RefusedRequestsHaveNoEffect_adopted :
    ∀ s ∈ [ready [] idle, ready [(1025, 5)] inPattern, ready [(3008, 0)] (deaf idle)], adopting s := by decide

/-- The towers kept and not, the promotion withheld for pattern 0 in IN_PATTERN alone, and the two refusals. -/
theorem witness_RefusedRequestsHaveNoEffect_promotions :
    (ready [] idle).keepsTowers ∧ ¬(ready [(1025, 5)] inPattern).keepsTowers ∧
      ¬(ready [(1472, 0)] inPattern).adopts ∧ (ready [(1472, 0)] idle).adopts ∧
      (stagedBank both).patDefined 2 = false ∧ (stagedBank both).patDefined 1 = true ∧
      (ready [(3008, 0)] (deaf idle)).withStaged.reachable 1 = false := by decide

theorem witness_AcceptedChangeStarts :
    idle.taking ∧ idle.lines.localOn = false ∧ idle.lines.txTrip = false ∧ (1 : Byte).toNat = (1 : Pat).val ∧
      idle.seq.mode = .stopped ∧ inPattern.seq.mode = .inPattern ∧ ¬idle.adopts ∧ ¬inPattern.adopts ∧
      idle.bank.patDefined 1 = true ∧ idle.reachable 1 = true ∧ inPattern.reachable 0 = true ∧ idle.stationBusy ∧
      idle.fieldBusy ∧ idle.station.replies.length < 8 := by decide

/-- The adopted starts, one with moves. -/
theorem witness_AcceptedChangeStarts_adopted :
    (∀ s ∈ [ready [] idle, ready [(1025, 5)] inPattern], adopting s) ∧
      (stagedBank (ready [] idle).tables.mem).patDefined 1 = true ∧ (ready [] idle).withStaged.reachable 1 = true ∧
      (ready [] idle).withStaged.movesNeeded (some 1) = true ∧
      (stagedBank (ready [(1025, 5)] inPattern).tables.mem).patDefined 0 = true ∧
      (ready [(1025, 5)] inPattern).withStaged.reachable 0 = true := by decide

/-- R9, R10: the READY bank is adopted by a refused and by an accepted CHANGE. -/
theorem test_change_adopts_the_staged_bank :
    (ran (.change 25 7 2) (ready [(1025, 5)] idle)).station.replies = [reply 4 9 [1]] ∧
      (ran (.change 25 7 2) (ready [(1025, 5)] idle)).bank.tsuNode 0 = 5 ∧
      (ran (.change 25 7 1) (ready [] idle)).change?.map Change.adopted = some true ∧
      (ran (.change 25 7 1) (ready [] idle)).tables.staged = .clean := by decide

theorem witness_RequestsWaitInTheSlot :
    let s := { changing with seq := { changing.seq with slot := some { source := .panel, target := some 3 } } }
    changing.taking ∧ changing.lines.localOn = false ∧ changing.seq.mode = .changing change ∧
      (3 : Byte).toNat = (3 : Pat).val ∧ changing.seq.slot = none ∧ s.seq.slot.isSome = true ∧
      s.room .requestOverrun (.request .panel) := by decide

theorem witness_StopTakesTheCarrierDown :
    idle.taking ∧ idle.lines.localOn = false ∧ idle.seq.mode = .stopped ∧ idle.ramp.level = 0 ∧
      idle.seq.slot = none ∧ idle.tables.staged ≠ .ready ∧ (∀ k : Tower, idle.table.readings[k].state ≠ .stale) ∧
      idle.stationBusy ∧ idle.station.replies.length < 8 ∧ inPattern.seq.mode = .inPattern ∧
      inPattern.seq.active = some 0 ∧ 0 < inPattern.ramp.level ∧
      inPattern.ramp.level ≤ inPattern.tables.mem.licensedLevel 0 ∧ 0 < inPattern.bank.rampStep := by decide

theorem witness_AbortAndDeadlinesTurnTheChangeBack :
    let s := { changing with ramp := { changing.ramp with deadline := some 100, inProgress := true } }
    let r := under (.changing { change with kind := .revert }) idle
    idle.change? = none ∧ r.seq.mode = .changing { change with kind := .revert } ∧ changing.seq.mode = .changing change ∧
      change.kind ≠ .revert ∧ change.fromPat = some 0 ∧ changing.bank.patDefined 0 = true ∧
      changing.lines.txTrip = false ∧ changing.seq.slot = none ∧ changing.room .aborted .nothing ∧
      changing.stationBusy ∧ changing.fieldBusy ∧ changing.station.replies.length < 8 ∧
      change.phaseDeadline ≠ none ∧ change.settleDeadline ≠ none ∧ s.ramp.deadline ≠ none ∧ s.ramp.inProgress = true ∧
      changing.room .muteTimeout .nothing ∧ changing.room .settleTimeout .nothing ∧ s.room .rampTimeout .nothing := by
  decide

/-- A reversion in SWITCHING, one toward no pattern, and one in TRIMMING that ends IN_PATTERN. -/
theorem witness_AbortAndDeadlinesTurnTheChangeBack_second :
    let c := fun ph => { change with kind := .revert, fromPat := some 1, toPat := some 0, phase := ph }
    let s := fun ph => { phased ph idle with seq := (under (.changing (c ph)) idle).seq }
    let r := { s .trimming with ramp := { (s .trimming).ramp with inProgress := true, deadline := some 90 } }
    (s .switching).taking ∧ (c .switching).phaseDeadline ≠ none ∧ (s .switching).room .muteTimeout .nothing ∧
      { c .rampDown with toPat := none }.toPat = none ∧ (c .trimming).settleDeadline ≠ none ∧
      (s .trimming).seq.slot = none ∧ (s .trimming).faults.records = [] ∧ (s .trimming).room .settleTimeout .nothing ∧
      r.ramp.deadline ≠ none ∧ r.ramp.inProgress = true ∧ r.room .rampTimeout .nothing ∧
      (ran .phaseDeadline (s .switching)).seq.mode = .halted ∧
      (ran .settleDeadline (s .trimming)).seq.sub = .degraded ∧
      (ran .settleDeadline (s .trimming)).faults.records.map FaultRecord.kind = [.settleTimeout, .revertIncomplete] := by
  decide

theorem witness_RampTimeoutInPatternDegrades :
    ramping.taking ∧ ramping.seq.mode = .inPattern ∧ ramping.seq.sub = .normal ∧ ramping.seq.active = some 0 ∧
      ramping.ramp.deadline = some 2500 ∧ ramping.ramp.inProgress = true ∧ ramping.room .rampTimeout .nothing := by decide

theorem witness_RecoverLeavesHalted :
    halted.taking ∧ halted.seq.mode = .halted ∧ idle.seq.mode ≠ .halted ∧
      (∀ k : Tower, halted.table.readings[k].state ≠ .stale) := by decide

theorem witness_OnlyRecoverAndResetsLeaveHalted :
    (Instr.blockTimerExpiry).wf = true ∧ exec .blockTimerExpiry (on halted) = .next (on (ran .blockTimerExpiry halted)) ∧
      halted.seq.mode = .halted := ⟨by decide, rfl, by decide⟩

theorem witness_ReadStatusReportsAndClearsTheSummary : idle.taking ∧ inPattern.taking := by decide

theorem witness_ReadingAndFaultListsAreReported :
    idle.taking ∧ ((idle.recorded .txTrip .nothing .c).faults.records[0 + (0 : Byte).toNat]?).isSome = true := by
  decide

theorem witness_ClearFaultsRemovesTheEndedRecords :
    idle.taking ∧ exec (.clearFaults 25 7) (on idle) = .next (on (ran (.clearFaults 25 7) idle)) :=
  ⟨by decide, rfl⟩

theorem witness_UnknownRequestIsAnsweredUnknown :
    idle.taking ∧ knownRequest [7, 77] = false ∧ knownRequest [7, 1] = false ∧ knownRequest [7] = false := by decide

theorem witness_StateReportsAreTaken :
    let s := flying 0 closing idle
    idle.taking ∧ idle.field.link.up = true ∧ idle.stationBusy ∧ idle.bank.findElem 16 0 = some 0 ∧
      idle.bank.elemKind 0 = .contactor ∧ (∀ r ∈ idle.faults.records, ¬(r.active = true)) ∧
      idle.elems[0].command = none ∧ idle.elems[0].contact = .opened ∧ s.elems[0].command = some closing ∧
      closing.order = .contact .closed ∧ s.seq.mode = .stopped ∧ idle.bank.findElem 16 1 = some 1 ∧
      idle.bank.elemKind 1 = .actuator ∧ idle.elems[1].command = none ∧ idle.bank.findElem 16 3 = none ∧
      idle.room .contactFault (.element 0) ∧ idle.elems[0].contact ≠ .fault := by decide

/-- An actuator with a position command, deadband 8 at 9000: reached at each end, and not reached one beyond. -/
theorem witness_StateReportsAreTaken_actuator :
    let c := { closing with order := .position 9000 }
    let s := flying 1 c idle
    s.elems[1].command = some c ∧ s.seq.mode = .stopped ∧ s.room .actuatorStall (.element 1) ∧
      256 * 35 + 32 = 8992 ∧ 9000 ≤ 8992 + s.bank.posDeadband 1 ∧ 9008 ≤ 9000 + s.bank.posDeadband 1 ∧
      ¬(9000 ≤ 8991 + s.bank.posDeadband 1) ∧
      (ran (.stateFrame 16 [1, 5, 35, 32]) s).elems[1].command = none ∧
      (ran (.stateFrame 16 [1, 5, 35, 31]) s).elems[1].command = some c ∧
      (ran (.stateFrame 16 [1, 3, 35, 40]) s).elems[1].command = some c ∧
      (ran (.stateFrame 16 [1, 6, 35, 32]) s).faults.records.map FaultRecord.kind = [.actuatorStall] ∧
      (ran (.stateFrame 16 [0, 4, 0, 0]) (flying 0 closing idle)).faults.records.map FaultRecord.kind =
        [.contactFault] := by decide

theorem witness_DriftIsJudgedByQuiet :
    let s := { idle with table := { idle.table with quiet := false } }
    idle.taking ∧ idle.bank.findElem 16 0 = some 0 ∧ idle.bank.elemKind 0 = .contactor ∧
      idle.elems[0].command = none ∧ idle.elems[0].expired = none ∧ idle.elems[0].contact ≠ .closed ∧
      idle.elems[0].contact = .opened ∧ idle.table.quiet = true ∧ idle.seq.mode = .stopped ∧
      idle.room .contactDrift (.element 0) ∧ s.table.quiet = false ∧ s.seq.mode ≠ .halted ∧
      s.room .hotContact (.element 0) := by decide

theorem witness_ElementDeadlinesEndCommandsAndReports :
    let s := flying 0 closing idle
    let r := flying 0 { closing with retries := 1 } idle
    let a := flying 1 { closing with order := .position 9000 } idle
    s.taking ∧ s.fieldBusy ∧ s.elems[0].command = some closing ∧ closing.origin = .part ∧ closing.retries = 0 ∧
      s.bank.elemRetry 0 = true ∧ s.ramp.inhibit = true ∧ s.table.quiet = true ∧ s.seq.mode = .stopped ∧
      r.elems[0].command = some { closing with retries := 1 } ∧ r.room .contactTimeout (.element 0) ∧
      a.elems[1].command = some { closing with order := .position 9000 } ∧ a.room .actuatorTimeout (.element 1) ∧
      idle.elems[0].lastReport = some 0 ∧ idle.bank.elemKind 0 = .contactor ∧ idle.elems[0].contact ≠ .unknown ∧
      idle.elems[1].lastReport = some 0 ∧ idle.bank.elemKind 1 = .actuator ∧ idle.elems[1].motion ≠ .unknown ∧
      idle.room .elementSilent (.element 0) ∧ idle.room .elementSilent (.element 1) := by decide

theorem witness_DwellEndStartsTheNextGroup :
    let s := { changing with table := { changing.table with quiet := false } }
    changing.taking ∧ changing.seq.mode = .changing change ∧ change.toPat = some 1 ∧
      changing.walk.dwellDeadline = some 50 ∧
      (groupsOf (changing.bank.switchList 1))[change.group + 1]? =
        some [{ elem := 2, action := .closed, group := 2, dwell := 0 }] ∧
      s.table.quiet = false ∧ changing.ramp.inhibit = true ∧ changing.table.quiet = true ∧ changing.fieldBusy ∧
      changing.elems[2].command = none ∧ changing.elems[2].contact.is .closed = false := by decide

/-- The dwell before a group of two steps, one DEFERRED and one commanded, and before one that is complete at its start
with a dwell of 3; the report that completes a group with a dwell of 2; the last dwell, with contactor 2 as asked and not. -/
theorem witness_DwellEndStartsTheNextGroup_groups :
    let m := fun l : List (Nat × Byte) => ({ changing with
      tables := { changing.tables with mem := l.foldl (fun m c => m.write c.1 c.2) cfg } } : Part)
    let two := flying 0 { closing with origin := .station } (m [(7104, 3), (7116, 0), (7117, 2), (7118, 2)])
    let at2 := fun (x : ContactState) (p : Part) =>
      { p with elems := p.elems.set 2 { p.elems[2] with contact := x } }
    let done := at2 .closed (m [(7115, 3)])
    let last := fun x => let p := at2 x (m [(7104, 2)])
      ({ p with
        seq := { p.seq with mode := .changing { change with group := 1 } }
        elems := p.elems.set 0 { p.elems[0] with contact := .closed } } : Part)
    let g := (groupsOf (two.bank.switchList 1))[1]?.getD []
    g.map SwitchStep.elem = [2, 0] ∧ g.Pairwise (fun y z => y.elem ≠ z.elem) ∧ two.elems[0].command ≠ none ∧
      (ran .dwellEnd two).walk.steps = [.commanded, .deferred] ∧
      ((groupsOf (done.bank.switchList 1))[1]?.getD []).map SwitchStep.dwell = [3] ∧
      done.elems[2].command = none ∧ done.elems[2].contact.is .closed = true ∧
      (ran .dwellEnd done).walk.dwellDeadline = some 80 ∧
      (groupsOf ((last .opened).bank.switchList 1)).length = 2 ∧ (last .opened).lines.txTrip = false ∧
      (last .opened).room .setMismatch (.element 2) ∧ (last .opened).bank.patDefined 0 = true ∧
      (∀ e : Elem, (last .opened).bank.elemKind e = .contactor →
        (last .opened).elems[e].contact.is ((last .opened).bank.required 1 e) = decide (e ≠ 2)) ∧
      (ran .dwellEnd (last .opened)).change?.map Change.cause = some (some (.fault .setMismatch)) ∧
      (∀ e : Elem, (last .closed).bank.elemKind e = .contactor →
        (last .closed).elems[e].contact.is ((last .closed).bank.required 1 e) = true) ∧
      (ran .dwellEnd (last .closed)).corr.config.source = some 1 := by decide

/-- The report that completes the one open step of a group, whose dwell of 2 then runs. -/
theorem witness_DwellEndStartsTheNextGroup_completion :
    let s := flying 0 closing { changing with walk := { state := .inGroup, steps := [.commanded], dwellDeadline := none } }
    s.taking ∧ s.bank.findElem 16 0 = some 0 ∧ s.bank.elemKind 0 = .contactor ∧
      s.elems[0].command = some closing ∧ closing.order = .contact .closed ∧ change.phase = .switching ∧
      (groupsOf (s.bank.switchList 1))[change.group]? =
        some [{ elem := 0, action := .closed, group := 1, dwell := 2 }] ∧ s.walk.state = .inGroup ∧
      (ran (.stateFrame 16 [0, 2, 0, 0]) s).walk =
        { state := .dwell, steps := [.complete], dwellDeadline := some 20 } := by decide

/-- STOPPED with actuator 1 off its preset, with a command in flight, within its preset, and of no known position. -/
theorem witness_PresetsAreMadeBeforeTheRamp :
    let s := trimmed idle
    let at' := fun x : Option Nat => { s with elems := s.elems.set 1 { s.elems[1] with position := x } }
    s.taking ∧ s.lines.localOn = false ∧ s.lines.txTrip = false ∧ (0 : Byte).toNat = (0 : Pat).val ∧
      s.seq.mode = .stopped ∧ ¬s.adopts ∧ s.bank.patDefined 0 = true ∧ s.reachable 0 = true ∧
      s.movesNeeded (some 0) = false ∧
      s.bank.actuatorEntries 0 =
        [{ elem := 1, tower := 1, quantity := .ratio, sense := 1, gain := 512, deadband := 10, maxStep := 40,
           preset := 28500 }] ∧
      (∀ e : Elem, s.elems[e].command = none) ∧ s.trim.deferred = [] ∧ s.ramp.level = 0 ∧ s.fieldBusy ∧
      0 < min (s.bank.trimLevel 0) (s.tables.mem.licensedLevel 0) ∧ s.bank.posMin 1 ≤ s.bank.posMax 1 ∧
      s.elems[1].position = some 9000 ∧
      (ran (.change 25 7 0) s).elems[1].command.map Command.order = some (.position 28500) ∧
      (ran (.change 25 7 0) (at' (some 28508))).phase? = some .rampToTrim ∧
      (ran (.change 25 7 0) (at' (some 28509))).phase? = some .presetting ∧
      (ran (.change 25 7 0) (at' none)).phase? = some .presetting ∧
      (ran (.change 25 7 0) (flying 1 { closing with order := .position 9000 } s)).trim.deferred = [1] := by decide

/-- PRESETTING with the last preset in flight, and with the preset deferred behind a command of the station: reached,
reached beside the preset, and stalled. -/
theorem witness_PresetsAreMadeBeforeTheRamp_reports :
    let c : Command := { closing with order := .position 28500, preset := true }
    let s := flying 1 c { under (.changing { change with fromPat := some 1, toPat := some 0, phase := .presetting })
      (trimmed idle) with ramp := idle.ramp }
    let d := flying 1 { c with origin := .station, order := .position 9000, preset := false }
      { s with trim := { s.trim with deferred := [1] } }
    s.taking ∧ s.lines.txTrip = false ∧ s.fieldBusy ∧ s.bank.findElem 16 1 = some 1 ∧ s.bank.elemKind 1 = .actuator ∧
      (∀ j : Elem, j ≠ 1 → s.elems[j].command = none) ∧ s.bank.actuatorEntries 0 ≠ [] ∧ s.ramp.level = 0 ∧
      s.room .actuatorStall (.element 1) ∧ s.bank.patDefined 1 = true ∧
      (ran (.stateFrame 16 [1, 5, 111, 92]) s).phase? = some .rampToTrim ∧
      (ran (.stateFrame 16 [1, 5, 111, 93]) s).phase? = some .presetting ∧
      d.trim.deferred = [1] ∧ (ran (.stateFrame 16 [1, 5, 35, 40]) d).elems[1].command.map Command.preset = some true ∧
      (ran (.stateFrame 16 [1, 6, 111, 84]) s).change?.map Change.cause = some (some (.fault .actuatorStall)) := by decide

/-- R107, R124: the ACTUATOR_STALL of the last preset is recorded in RAMP_TO_TRIM. -/
theorem test_stalled_last_preset_is_recorded_in_ramp_to_trim :
    let c : Command := { closing with order := .position 28500, preset := true }
    let s := flying 1 c { under (.changing { change with fromPat := some 1, toPat := some 0, phase := .presetting })
      (trimmed idle) with ramp := idle.ramp }
    (ran (.stateFrame 16 [1, 6, 111, 84]) s).faults.records.map FaultRecord.situation = [.changing .rampToTrim] := by decide

/-- The part before tower 1's window closes at a ratio of 10000, in TRIMMING of pattern 0 or in a CONTINUOUS pattern 0, with
a target ratio for tower 1, a position and a trim count of actuator 1. -/
def trimming (p : Part) (target : Nat) (pos : Nat) (count : Nat) : Part :=
  let s := rounding (trimmed p)
  { s with
    round := { s.round with coverage := [] }
    corr :=
      { s.corr with
        config :=
          { s.corr.config with
            targets := s.corr.config.targets.map fun v => v.set 1 { v[1] with ratio := target } } }
    elems := s.elems.set 1 { s.elems[1] with position := some pos, trimCount := count } }

/-- IN_PATTERN of pattern 0 made CONTINUOUS. -/
def continuing : Part := { inPattern with tables := { inPattern.tables with mem := cfg.write 5584 1 } }

/-- What the statement of the trim steps asks of a part before tower 1's block of index 1. -/
abbrev stepping (s : Part) : Prop :=
  s.taking ∧ s.bank.towerOfNode 2 = some 1 ∧ s.store.entries.Pairwise (fun y z => y.index ≠ z.index) ∧
    (∀ e ∈ s.store.entries, e.index = 1 ∧ e.refBlock = some (steady 5 0) ∧ e.epoch = true ∧ 1 ≠ e.refTower ∧
      e.held = [] ∧ e.combined = []) ∧ s.store.entries.length = 1 ∧ 1 ≠ s.corr.config.refTower ∧
    s.corr.accums[1].count + 1 = 2 ^ s.corr.config.w ∧ s.corr.config.targets.isSome = true ∧
    s.bank.installed 0 = true ∧ s.round.coverage = [] ∧ (∀ y : Elem, s.elems[y].contactInFlight = false) ∧
    s.fieldBusy ∧ s.trimPattern = some 0 ∧
    ((s.bank.actuatorEntries 0).filter fun y => decide (y.tower = 1)).length = 1

/-- A step up and down, an error at the deadband, a step that travel cuts short and one that it takes away, an exhausted
budget in TRIMMING and in IN_PATTERN, and an element that is not eligible. -/
theorem witness_TrimStepsFollowTheReading :
    let c := phased .trimming idle
    ∀ s ∈ [trimming c 11000 9000 0, trimming c 9000 9000 0, trimming c 10101 9000 0, trimming c 11000 59990 0,
        trimming c 11000 60000 0, trimming c 11000 9000 6, trimming continuing 11000 9000 6,
        flying 1 { closing with order := .position 9000 } (trimming c 11000 9000 0)], stepping s := by decide

theorem witness_TrimStepsFollowTheReading_clauses :
    let c := phased .trimming idle
    let run := fun s : Part => (ran (.sampleArrival 2 (samples 1 5)) s)
    let order := fun s : Part => (run s).elems[1].command.map Command.order
    (trimming c 11000 9000 0).corr.config.source = some 0 ∧ (trimming c 11000 9000 0).bank.settleWindows 0 = 1 ∧
      (run (trimming c 11000 9000 0)).table.readings[1].state = .valid ∧
      (run (trimming c 11000 9000 0)).table.readings[1].ratio = 10000 ∧
      order (trimming c 11000 9000 0) = some (.position 9040) ∧ order (trimming c 9000 9000 0) = some (.position 8960) ∧
      order (trimming c 10101 9000 0) = none ∧ order (trimming c 11000 59990 0) = some (.position 60000) ∧
      order (trimming c 11000 60000 0) = none ∧ (run (trimming c 11000 60000 0)).elems[1].atLimit = true ∧
      (run (trimming c 11000 60000 0)).faults.records.map FaultRecord.kind = [.actuatorLimit] := by decide

theorem witness_TrimStepsFollowTheReading_exhausted :
    let c := phased .trimming idle
    let run := fun s : Part => (ran (.sampleArrival 2 (samples 1 5)) s)
    (trimming c 11000 9000 6).bank.trimLimit 0 = 6 ∧ (trimming c 11000 9000 6).bank.patDefined 1 = true ∧
      (trimming c 11000 9000 6).lines.txTrip = false ∧ (trimming c 11000 9000 6).room .trimExhausted (.element 1) ∧
      (run (trimming c 11000 9000 6)).change?.map Change.kind = some .revert ∧
      (trimming continuing 11000 9000 6).bank.continuous 0 = true ∧
      (run (trimming continuing 11000 9000 6)).trim.exhausted = [1] ∧
      (run (trimming continuing 11000 9000 7)).seq.sub = .degraded := by decide

theorem witness_StationContactorFrameIsGuarded :
    let s := { idle with table := { idle.table with quiet := false } }
    idle.taking ∧ idle.fieldBusy ∧ 1 ≤ (16 : Byte).toNat ∧ (16 : Byte).toNat ≤ 23 ∧
      idle.bank.findElem 16 0 = some 0 ∧ idle.bank.elemKind 0 = .contactor ∧ changing.seq.mode = .changing change ∧
      idle.seq.mode = .stopped ∧ idle.bank.stationWhenStopped 0 = true ∧ [(0 : Byte), 3, 0, 0].getD 1 0 ≠ 2 ∧
      s.table.quiet = false ∧ idle.ramp.inhibit = true ∧ idle.table.quiet = true ∧
      (flying 0 closing idle).elems[0].command ≠ none ∧ idle.elems[0].command = none := by decide

theorem witness_StationActuatorFrameIsGuarded :
    let s := { inPattern with tables := { inPattern.tables with mem := cfg.write 5584 1 } }
    idle.taking ∧ idle.fieldBusy ∧ idle.bank.findElem 16 1 = some 1 ∧ idle.bank.elemKind 1 = .actuator ∧
      s.seq.active = some 0 ∧ s.bank.continuous 0 = true ∧ inPattern.bank.continuous 0 = false ∧
      inPattern.bank.stationInPattern 1 = true ∧ idle.bank.stationWhenStopped 1 = true ∧
      256 * 19 + 136 = idle.bank.posMin 1 ∧ idle.bank.posMax 1 < 256 * 234 + 97 ∧
      (flying 1 { closing with order := .position 9000 } idle).elems[1].command ≠ none ∧
      idle.elems[1].command = none := by decide

theorem witness_RampSendsAndReportsMoveTheLevels :
    let s := { inPattern with ramp := { inPattern.ramp with nextSend := some 50 } }
    ramping.taking ∧ ramping.ramp.nextSend = some 50 ∧ ramping.stationBusy ∧
      ramping.ramp.level ≠ min ramping.ramp.target ramping.licensedNow ∧ s.ramp.nextSend = some 50 ∧
      s.ramp.level = min s.ramp.target s.licensedNow ∧ ¬s.ramp.Complete ∧ idle.ramp.inProgress = false ∧
      24 ≤ (24 : Byte).toNat ∧ (30 : Byte).toNat ≤ 30 := by decide

/-- A phase of the change from pattern 1 to pattern 0, its ramp one step of 100 below a target, the transmitter within
tolerance of the target. -/
def arriving (ph : Phase) (target : Nat) : Part :=
  { phased ph idle with
    ramp := { inPattern.ramp with level := target - 100, target := target, inProgress := true, deadline := some 900,
                                  nextSend := some 50, lastReported := some (target + 20) } }

/-- A change toward a pattern or none in RAMP_DOWN, its ramp one step of 100 above 0, QUIET lost. -/
def fading (p : Option Pat) : Part :=
  let s := under (.changing { change with toPat := p, phase := .rampDown }) idle
  { s with
    table := { s.table with quiet := false }
    ramp := { inPattern.ramp with level := 100, target := 0, inProgress := true, nextSend := some 50,
                                  lastReported := some 20 } }

/-- R141: the send that brings L to T at the edge of the tolerance: in IN_PATTERN and in each phase that waits on a
ramp. -/
theorem witness_RampSendsAndReportsMoveTheLevels_completed :
    let last := fun s : Part => { s.ramp with level := s.ramp.target, nextSend := none }
    let s := { ramping with ramp := { ramping.ramp with level := 550, lastReported := some 480 } }
    (∀ x ∈ [s, arriving .rampToTrim 200, arriving .rampFinal 1000, fading none, fading (some 1)],
      x.taking ∧ x.ramp.nextSend = some 50 ∧ x.stationBusy ∧ x.seq.slot = none ∧ (last x).Complete) ∧
      (ran .rampSend s).ramp = (last s).completed ∧
      (ran .rampSend (arriving .rampToTrim 200)).phase? = some .trimming ∧
      (ran .rampSend (arriving .rampFinal 1000)).seq.mode = .inPattern ∧
      (ran .rampSend (fading none)).seq.mode = .stopped ∧ (ran .rampSend (fading (some 1))).phase? = some .muting := by
  decide

/-- Nothing raises a class C fault at the entry, and QUIET is lost. -/
theorem witness_RampSendsAndReportsMoveTheLevels_entries :
    let s := arriving .rampFinal 1000
    s.lines.txTrip = false ∧ s.field.link.up = true ∧
      (∀ k : Tower, s.bank.installed k = true → s.table.readings[k].state ≠ .stale) ∧
      (∀ e : Elem, s.silent e = false) ∧ (fading (some 1)).table.quiet = false := by decide

theorem witness_FinalRampEndsInPattern :
    let c := { change with phase := .rampFinal }
    let s := { under (.changing c) idle with
      ramp := { inPattern.ramp with level := 400, target := 400, inProgress := true } }
    s.taking ∧ s.stationBusy ∧ s.seq.mode = .changing c ∧ c.phase = .rampFinal ∧ c.toPat = some 1 ∧
      s.seq.slot = none ∧ s.ramp.inProgress = true ∧ s.ramp.level = s.ramp.target ∧
      256 * (1 : Byte).toNat + (164 : Byte).toNat ≤ s.ramp.target + s.ramp.tolerance ∧
      s.ramp.target ≤ 256 * (1 : Byte).toNat + (164 : Byte).toNat + s.ramp.tolerance ∧ s.lines.txTrip = false ∧
      s.field.link.up = true ∧
      (∀ k : Tower, s.bank.installed k = true → s.table.readings[k].state ≠ .stale) ∧
      (∀ e : Elem, s.silent e = false) := by decide

theorem witness_StationPowerIsClamped :
    let s := { inPattern with station := { inPattern.station with power := some 1000 } }
    inPattern.taking ∧ inPattern.stationBusy ∧ inPattern.seq.mode = .inPattern ∧
      [(1 : Byte)].length ≠ 2 ∧ [(1 : Byte), 0].length = 2 ∧ ramping.ramp.inProgress = true ∧
      ramping.seq.mode = .inPattern ∧ inPattern.ramp.inProgress = false ∧ inPattern.seq.active = some 0 ∧
      idle.change? = none ∧ idle.seq.mode = .stopped ∧ s.station.power = some 1000 ∧
      (ran (.stationPower 25 [0, 150]) s).station.power = some 150 ∧
      (ran (.stationPower 25 [255, 255]) (degraded [])).ramp.level = 100 := by decide

/-- R149: the part's own frame that waits as a station's level is forwarded is replaced by one carrying the new L, so that
the licence cut to 300 behind it leaves no higher level to send. -/
theorem test_own_power_follows_a_forwarded_level :
    let s := ran (.stationPower 25 [0, 150]) { inPattern with station := { inPattern.station with power := some 400 } }
    (ran (.writeBlock 25 7 0 true (1 :: 44 :: List.replicate 62 0)) s).station.power = some 150 := by decide

theorem witness_FrameBytesAndFramesAgree :
    let f : Frame := { dst := 30, src := 5, kind := 10, payload := [1, 2] }
    f.payload.length ≤ 200 ∧ frameOfBytes f.wire = some f := by decide

theorem witness_DiscardedFramesCountForTheLinkAlone :
    idle.taking ∧ [(0 : Byte), 0, 0, 0, 0].length < 6 ∧ idle.field.link.up = true ∧
      State.reset.part.field.link.up = false ∧ State.reset.part.seq.mode = .stopped ∧ (5 : Byte) = 5 ∧
      (1 ≤ (23 : Byte).toNat ∧ (23 : Byte).toNat ≤ 23) ∧ (1 : Byte) ≠ 8 ∧ (1 : Byte) ≠ 7 ∧ ¬((1 : Byte) = 6) := by decide

theorem witness_ForwardedFramesWaitInTheQueues :
    let s := { idle with station := { idle.station with sending := none } }
    idle.taking ∧ 24 ≤ (24 : Byte).toNat ∧ (30 : Byte).toNat ≤ 30 ∧ idle.stationBusy ∧ idle.field.link.up = true ∧
      (10 : Byte) ≠ 5 ∧ ¬((10 : Byte) = 6) ∧ s.station.sending = none ∧ s.station.replies = [] ∧
      s.station.power = none ∧ s.station.monitor = none ∧ s.station.queue = [] ∧ idle.fieldBusy ∧
      1 ≤ (1 : Byte).toNat ∧ (23 : Byte).toNat ≤ 23 ∧
      idle.bank.findElem (16 : Byte).toNat ((15 : Byte).toNat % 16) = none := by decide

theorem witness_LinkDeadlineTakesThePortDown :
    (∀ s ∈ [idle, halted, inPattern, degraded []],
      s.taking ∧ s.station.link.deadline = some 20 ∧ s.field.link.deadline = some 20 ∧
        s.room .stationLinkDown .nothing ∧ s.room .fieldLinkDown .nothing) ∧
      idle.seq.mode = .stopped ∧ halted.seq.mode = .halted ∧ inPattern.seq.mode = .inPattern ∧
      inPattern.seq.sub = .normal ∧ inPattern.seq.active = some 0 ∧ (degraded []).seq.mode = .inPattern ∧
      (degraded []).seq.sub = .degraded := by decide

/-- A reversion toward pattern 0, in a phase. -/
def reverting (ph : Phase) : Part :=
  { phased ph idle with
    seq := (under (.changing { change with kind := .revert, fromPat := some 1, toPat := some 0, phase := ph }) idle).seq }

/-- A change that the loss of the field link turns back, and a reversion that it ends in SWITCHING and in TRIMMING. -/
theorem witness_LinkDeadlineTakesThePortDown_changing :
    let lost := Instr.linkDeadline .field
    (∀ s ∈ [changing, reverting .switching, reverting .trimming],
      s.taking ∧ s.field.link.deadline = some 20 ∧ s.room .fieldLinkDown .nothing ∧ s.seq.slot = none ∧
        s.lines.txTrip = false ∧ s.faults.records = []) ∧
      changing.seq.mode = .changing change ∧ change.kind ≠ .revert ∧ change.fromPat = some 0 ∧
      changing.bank.patDefined 0 = true ∧
      (ran lost changing).change?.map Change.cause = some (some (.fault .fieldLinkDown)) ∧
      (ran lost (reverting .switching)).seq.mode = .halted ∧ (ran lost (reverting .trimming)).seq.sub = .degraded ∧
      (ran lost (reverting .trimming)).faults.records.map (fun r => (r.kind, r.cls)) =
        [(.fieldLinkDown, .c), (.revertIncomplete, .c)] := by decide

theorem witness_StationArbiterKeepsItsOrder :
    let f : Frame := { dst := 24, src := 25, kind := 5, payload := [0, 9] }
    let p := { idle.station with queue := [{ frame := f, rampSince := false }] }
    let q := fun (x : Byte) (since : Bool) => { inPattern with
      station := { inPattern.station with
        queue := [{ frame := { f with payload := [3, x] }, rampSince := since }] } }
    idle.taking ∧ idle.station.sending ≠ none ∧ idle.station.replies = [] ∧ idle.station.power = none ∧
      idle.station.monitor = none ∧ idle.station.queue = [] ∧
      p.queue = [{ frame := f, rampSince := false }] ∧ f.kind = 5 ∧ f.dst = 24 ∧ idle.ramp.inhibit = true ∧
      (ran (.readFaults 25 7 0) idle).station.replies = [reply 10 0 [0, 0]] ∧
      { idle.station with power := some 0 }.power = some 0 ∧ { idle.station with monitor := some f }.monitor = some f ∧
      (q 232 false).ramp.inhibit = false ∧ (q 232 false).licensedNow = 1000 ∧
      (ran (.transmissionEnd .station) (q 232 false)).station.sending = some { f with payload := [3, 232] } ∧
      (ran (.transmissionEnd .station) (q 233 false)).station.sending = some (refusal f 1) ∧
      (ran (.transmissionEnd .station) (q 232 true)).station.sending = some (refusal f 1) := by decide

/-- A part with frames in the Field Port. -/
def waits (c : List PartFrame) (q : List FieldItem) (p : Part) : Part :=
  { p with field := { p.field with commands := c, queue := q } }

/-- QUIET lost. -/
def loud (p : Part) : Part := { p with table := { p.table with quiet := false } }

theorem witness_FieldArbiterGuardsTheContactors :
    let f : PartFrame := { elem := 0, order := .contact .closed, frame := { close0 with src := 0 } }
    let s := waits [f] [] (flying 0 closing idle)
    let t := loud (waits [] [{ frame := close0, owner := some 0 }] idle)
    idle.taking ∧ idle.field.sending ≠ none ∧ idle.field.blockStart = none ∧ idle.field.commands = [] ∧
      idle.field.queue = [] ∧ (ran .blockTimerExpiry idle).field.blockStart = some 1 ∧
      s.field.commands = [f] ∧ s.elems[0].command = some closing ∧
      closing.origin = .part ∧ s.ramp.inhibit = true ∧ s.table.quiet = true ∧ s.field.queue = [] ∧
      t.addressed close0 = some 0 ∧ t.bank.elemKind 0 = .contactor ∧ t.table.quiet = false ∧
      t.field.queue = [{ frame := close0, owner := some 0 }] := by decide

/-- Without QUIET a PART frame of a contactor is withdrawn before an actuator's, which is sent; before a queued frame that is
sent; and with nothing behind it. A station frame, with an owner and without, is withdrawn before another. -/
theorem witness_FieldArbiterGuardsTheContactors_withdrawn :
    let k : Command := { closing with order := .position 9000 }
    let f : PartFrame := { elem := 0, order := .contact .closed, frame := { close0 with src := 0 } }
    let ask : Frame := { dst := 16, src := 0, kind := 4, payload := [1, 3, 35, 40] }
    let g : PartFrame := { elem := 1, order := .position 9000, frame := ask }
    let both := loud (waits [f, g] [] (flying 1 k (flying 0 closing idle)))
    let ahead := loud (waits [f] [{ frame := other, owner := none }] (flying 0 closing idle))
    let queued := loud (waits [] [{ frame := close0, owner := some 0 }, { frame := close0, owner := none },
      { frame := other, owner := none }] (flying 0 { closing with origin := .station } idle))
    let e := fun s => ran (.transmissionEnd .field) s
    (e both).field.sending = some g.frame ∧ (e both).elems[0].command = some closing ∧
      both.addressed g.frame = some 1 ∧ both.bank.elemKind 1 = .actuator ∧
      (e ahead).field.sending = some other ∧ (e ahead).field.commands = [] ∧
      (e (loud (waits [f] [] (flying 0 closing idle)))).field.sending = none ∧
      queued.addressed other = none ∧ (e queued).field.sending = some other ∧ (e queued).elems[0].command = none ∧
      (e queued).station.replies = [refusal close0 3, refusal close0 3] ∧
      (e (waits [f] [] (flying 0 closing idle))).field.sending = some f.frame := by decide

/-- The last second of 2099, a new minute, the same minute, and TIME frames with a field out of range at each end. -/
theorem witness_ClockIsSetAndAdvances :
    let c : Calendar := { year := 2099, month := 12, day := 31, hour := 23, minute := 59, second := 59 }
    let s := { idle with clock := { time := some c, second := some 1000 } }
    idle.taking ∧ [(8 : Byte), 51, 12, 31, 23, 59, 59].length = 7 ∧ 256 * 8 + 51 = c.year ∧
      idle.bank.scheduleEnable = false ∧ idle.room .clockInvalid .nothing ∧ s.clock.time = some c ∧
      s.clock.second = some 1000 ∧ 2099 < c.tick.year ∧ s.room .clockInvalid .nothing ∧
      { c with second := 58 }.tick.year ≤ 2099 ∧ { c with second := 58 }.tick.minute = 59 ∧
      { c with minute := 58 }.tick.year ≤ 2099 ∧ { c with minute := 58 }.tick.minute ≠ 58 ∧
      ({ c with year := 2000, month := 2, day := 29 } : Calendar).valid = true ∧
      (∀ t ∈ [[8, 52, 1, 1, 0, 0, 0], [7, 207, 1, 1, 0, 0, 0], [8, 51, 0, 1, 0, 0, 0], [8, 51, 2, 29, 0, 0, 0],
          [8, 51, 1, 1, 24, 0, 0], [8, 51, 1, 1, 0, 60, 0], [8, 51, 1, 1, 0, 0, 60], [8, 51, 1, 1, 0, 0]],
        (ran (.time 25 (t : List Byte)) idle).faults.records.map FaultRecord.kind = [.clockInvalid]) := by decide

/-- R180, R181: past 2099 the clock is UNSET, and the evaluation of that minute finds no in-force pattern. -/
theorem test_clock_past_2099_leaves_no_in_force_pattern :
    let c : Calendar := { year := 2099, month := 12, day := 31, hour := 23, minute := 59, second := 59 }
    let s := { idle with
      clock := { time := some c, second := some 1000 }, sched := { idle.sched with inForce := some 1, owed := true } }
    (ran .clockSecond s).clock.time = none ∧ (ran .clockSecond s).sched.inForce = none ∧
      (ran .clockSecond s).sched.owed = false := by decide

/-- A schedule enabled, with pattern 1 at minute 0 of every day of January. -/
def scheduled (p : Part) : Part :=
  { p with
    tables := { p.tables with mem := (p.tables.mem.write 5165 1).writeBytes 7936 [0, 0, 1, 1] }
    clock := { time := some { year := 2024, month := 1, day := 2, hour := 0, minute := 0, second := 0 }, second := none } }

theorem witness_ScheduleRaisesTheInForcePattern :
    let s := scheduled changing
    s.taking ∧ idle.bank.scheduleEnable = false ∧ s.bank.scheduleEnable = true ∧
      s.tables.mem.transitions 1 = [(0, 1)] ∧ s.tables.mem.transitions 2 = [] ∧
      s.tables.mem.inForce { year := 2024, month := 1, day := 2, hour := 0, minute := 0, second := 0 } = some 1 ∧
      s.tables.mem.inForce { year := 2024, month := 2, day := 1, hour := 0, minute := 0, second := 0 } = some 1 ∧
      s.sched.lastRaised ≠ some 1 ∧ s.lines.localOn = false ∧
      (lined (fun l => { l with localOn := true }) s).lines.localOn = true ∧
      s.seq.mode = .changing change ∧ s.seq.slot = none := by decide

/-- A start in STOPPED, one dropped as unreachable, and one dropped in HALTED. -/
theorem witness_ScheduleRaisesTheInForcePattern_starts :
    let s := scheduled idle
    let u := let d := deaf s; { d with tables := { d.tables with mem := d.tables.mem.write 7104 0 } }
    s.taking ∧ s.bank.scheduleEnable = true ∧ s.lines.localOn = false ∧ s.seq.mode = .stopped ∧ ¬s.adopts ∧
      s.lines.txTrip = false ∧ s.bank.patDefined 1 = true ∧ s.reachable 1 = true ∧
      (ran .scheduleEvaluation s).change?.map Change.source = some .schedule ∧
      u.bank.patDefined 1 = true ∧ u.reachable 1 = false ∧ u.room .requestDropped (.request .schedule) ∧
      (ran .scheduleEvaluation u).faults.records.map FaultRecord.kind = [.requestDropped] ∧
      (scheduled halted).seq.mode = .halted ∧
      (ran .scheduleEvaluation (scheduled halted)).seq.anyOverrun = true := by decide

theorem witness_TxTripLineRaisesAndEnds :
    let trip := lined fun l => { l with txTrip := true }
    (∀ s ∈ [idle, halted, changing, inPattern, degraded []],
      s.taking ∧ s.lines.txTrip = false ∧ s.room .txTrip .nothing ∧ (trip s).lines.txTrip = true ∧
        (trip s).stationBusy) ∧
      idle.seq.mode = .stopped ∧ halted.seq.mode = .halted ∧ changing.seq.mode = .changing change ∧
      change.phase = .switching ∧ inPattern.seq.mode = .inPattern ∧ inPattern.seq.sub = .normal ∧
      inPattern.seq.active = some 0 ∧ (degraded []).seq.mode = .inPattern ∧ (degraded []).seq.sub = .degraded := by decide

/-- R155, R96: a trip of IN_PATTERN ends with its class C record, which sets the restore count to 0. -/
theorem witness_TxTripLineRaisesAndEnds_release :
    let s := ran .txTripAssert (degraded [])
    let t := ran .txTripRelease { s with seq := { s.seq with restore := 3 } }
    s.lines.txTrip = true ∧ s.stationBusy ∧ t.seq.restore = 0 ∧ t.faults.records.map FaultRecord.active = [false] ∧
      t.station.power = some 100 := by decide

/-- A trip in TRIMMING: of the change from pattern 1, which has contactors to move back; of the change from pattern 0 with
neither contactor nor preset to move; and of a reversion. -/
theorem witness_TxTripLineRaisesAndEnds_changing :
    let c := { change with phase := .trimming }
    let s := { under (.changing c) idle with ramp := (phased .trimming idle).ramp }
    let moving := phased .trimming idle
    (∀ x ∈ [s, moving, reverting .trimming],
      x.taking ∧ x.lines.txTrip = false ∧ x.room .txTrip .nothing ∧ x.phase? = some .trimming ∧ x.seq.slot = none ∧
        x.faults.records = []) ∧
      moving.bank.patDefined 1 = true ∧ moving.movesNeeded (some 1) = true ∧ s.bank.patDefined 0 = true ∧
      s.movesNeeded (some 0) = false ∧ (∀ e : Elem, s.elems[e].command = none) ∧ s.bank.actuatorEntries 0 = [] ∧
      (ran .txTripAssert moving).change?.map Change.cause = some (some (.fault .txTrip)) ∧
      (∀ x ∈ [s, reverting .trimming],
        (ran .txTripAssert x).seq.sub = .degraded ∧ (ran .txTripAssert x).seq.active = some 0 ∧
          (ran .txTripAssert x).faults.records.map (fun r => (r.kind, r.cls)) =
            [(.txTrip, .c), (.revertIncomplete, .c)]) := by decide

theorem witness_LocalAndPanelLinesAct :
    let l := lined fun l => { l with localOn := true }
    idle.taking ∧ idle.lines.localOn = false ∧ (l idle).lines.localOn = true ∧
      idle.bank.scheduleEnable = false ∧ (l changing).seq.mode = .changing change ∧ (l changing).seq.slot = none ∧
      (l halted).seq.mode = .halted ∧ (l halted).room .requestDropped (.request .panel) := by decide

/-- A release of LOCAL that raises an owed pattern, and panel edges that start, drop and stop. -/
theorem witness_LocalAndPanelLinesAct_starts :
    let l := lined fun l => { l with localOn := true }
    let s := let p := l (scheduled idle); { p with sched := { p.sched with owed := true } }
    s.bank.scheduleEnable = true ∧ s.sched.owed = true ∧ s.seq.active ≠ some 1 ∧ s.seq.mode = .stopped ∧ ¬s.adopts ∧
      s.lines.txTrip = false ∧ s.bank.patDefined 1 = true ∧ s.reachable 1 = true ∧
      (ran .localRelease s).change?.map Change.source = some .schedule ∧
      (l idle).bank.patDefined 1 = true ∧ (l idle).reachable 1 = true ∧
      (ran (.panelGo 1) (l idle)).change?.map Change.source = some .panel ∧
      (l idle).bank.patDefined 2 = false ∧ (l idle).room .requestDropped (.request .panel) ∧
      (ran (.panelGo 2) (l idle)).seq.anyOverrun = true ∧
      (l inPattern).seq.active = some 0 ∧ 0 < inPattern.ramp.level ∧
      inPattern.ramp.level ≤ inPattern.tables.mem.licensedLevel 0 ∧
      (ran .panelStop (l inPattern)).change?.map Change.toPat = some none := by decide

theorem witness_EveryStepKeepsTheBoundedLists :
    State.reset.part.Bounded ∧ State.reset.part.faults.distinct ∧ (holding none idle).StoreSound ∧
      State.reset.part.StoreSound ∧ step State.reset = .next { State.reset with part := { State.reset.part with uptime := 1 } } :=
  ⟨by decide, by decide, by decide, by decide, rfl⟩

theorem witness_EveryStepKeepsQuietAndMemory :
    State.reset.part.QuietSound ∧ idle.QuietSound ∧ State.reset.part.DueSound ∧ enabled.DueSound ∧
      step State.reset = .next { State.reset with part := { State.reset.part with uptime := 1 } } :=
  ⟨by decide, by decide, by decide, by decide, rfl⟩

theorem witness_EveryStepKeepsInhibitSound :
    State.reset.part.InhibitSound ∧
      step State.reset = .next { State.reset with part := { State.reset.part with uptime := 1 } } :=
  ⟨⟨rfl, fun _ => ⟨rfl, rfl, rfl⟩, .inl rfl, fun _ => rfl⟩, rfl⟩

theorem witness_OnlyTheirOwnCommandsChangeIndexAndLicence :
    (Instr.writeBlock 25 7 16 false (List.replicate 64 3)).wf = true ∧ 3 < (16 : Byte).toNat ∧
      idle.tables.mem.wf = true ∧ exec .panelStop (on idle) = .next (on (ran .panelStop idle)) :=
  ⟨by decide, by decide, by decide, rfl⟩

end Sys2Proof.Tests
end

section
/-! SUPPORT. The part in outline, and its core: what the invariants of the part speak of. -/

namespace Sys2Proof.Machine

/-- The attributes of the sequencer's state that decide what may follow: the state, and of a change its phase and its
kind (R71, R72). -/
inductive Shape where
  | stopped
  | changing (phase : Phase) (kind : ChangeKind)
  | inPattern
  | halted

/-- The shape of a sequencer state. -/
def Mode.shape : Mode → Shape
  | .stopped => .stopped
  | .changing c => .changing c.phase c.kind
  | .inPattern => .inPattern
  | .halted => .halted

/-- R159: the carrier is up in the phase of the change. -/
def Shape.carrierUp : Shape → Bool
  | .changing ph _ => ph.carrierUp
  | _ => false

/-- A change record without its group index and its two deadlines, which routine work rewrites. -/
def Change.outline (c : Change) : Change := { c with group := 0, phaseDeadline := none, settleDeadline := none }

/-- A sequencer state, its change record in outline. -/
def Mode.outline : Mode → Mode
  | .changing c => .changing c.outline
  | m => m

/-- The part without what routine work rewrites: the Pairing Store, the Correlator, the readings, the round, the walk,
the fault list, what waits at the Field Port, the deferred presets and the element records but for their trim counts. -/
structure Outline where
  held : Bool
  lines : Lines
  pins : Pins
  uptime : Uptime
  tables : Tables
  timer : BlockTimer
  quiet : Bool
  quietRuns : Vector Nat 12
  mode : Mode
  active : Option Pat
  slot : Option Request
  trimCounts : Vector Nat 40
  exhausted : List Elem
  allowance : Bool
  ramp : RampEngine
  fieldSending : Option Frame
  station : StationPort
  clock : Clock
  sched : Scheduler
  raised : List Raised

/-- The outline of a part. -/
def Part.outline (s : Part) : Outline :=
  { held := s.held, lines := s.lines, pins := s.pins, uptime := s.uptime, tables := s.tables, timer := s.timer
    quiet := s.table.quiet, quietRuns := s.table.quietRuns, mode := s.seq.mode.outline, active := s.seq.active
    slot := s.seq.slot, trimCounts := s.elems.map ElemRecord.trimCount, exhausted := s.trim.exhausted
    allowance := s.trim.allowance, ramp := s.ramp
    fieldSending := s.field.sending, station := s.station, clock := s.clock, sched := s.sched, raised := s.raised }

/-- What the invariants of the part speak of. -/
structure Core where
  held : Bool
  tables : Tables
  timer : BlockTimer
  quiet : Bool
  quietRuns : Vector Nat 12
  shape : Shape
  ramp : RampEngine
  power : Option Nat
  evalDue : Bool
  raised : List Raised

/-- The core of an outline. -/
def Outline.core (o : Outline) : Core :=
  { held := o.held, tables := o.tables, timer := o.timer, quiet := o.quiet, quietRuns := o.quietRuns
    shape := o.mode.shape, ramp := o.ramp, power := o.station.power, evalDue := o.sched.evalDue, raised := o.raised }

/-- The core of a part. -/
def Part.core (s : Part) : Core := s.outline.core

theorem Part.core_of_outline {s t : Part} (h : t.outline = s.outline) : t.core = s.core := congrArg Outline.core h

@[simp] theorem Mode.outline_shape (m : Mode) : m.outline.shape = m.shape := by cases m <;> rfl

@[simp] theorem Part.core_held (s : Part) : s.core.held = s.held := rfl
@[simp] theorem Part.core_tables (s : Part) : s.core.tables = s.tables := rfl
@[simp] theorem Part.core_timer (s : Part) : s.core.timer = s.timer := rfl
@[simp] theorem Part.core_quiet (s : Part) : s.core.quiet = s.table.quiet := rfl
@[simp] theorem Part.core_quietRuns (s : Part) : s.core.quietRuns = s.table.quietRuns := rfl
@[simp] theorem Part.core_shape (s : Part) : s.core.shape = s.seq.mode.shape := Mode.outline_shape _
@[simp] theorem Part.core_ramp (s : Part) : s.core.ramp = s.ramp := rfl
@[simp] theorem Part.core_power (s : Part) : s.core.power = s.station.power := rfl
@[simp] theorem Part.core_evalDue (s : Part) : s.core.evalDue = s.sched.evalDue := rfl
@[simp] theorem Part.core_raised (s : Part) : s.core.raised = s.raised := rfl

theorem Part.core_eq (s : Part) : s.core =
    { held := s.held, tables := s.tables, timer := s.timer, quiet := s.table.quiet, quietRuns := s.table.quietRuns
      shape := s.seq.mode.shape, ramp := s.ramp, power := s.station.power, evalDue := s.sched.evalDue
      raised := s.raised } := by
  simp only [Part.core, Outline.core, Part.outline, Mode.outline_shape]

end Sys2Proof.Machine
end

section
/-! SUPPORT. What one step inside an event can do to the core of the part, and what every such step keeps. -/

namespace Sys2Proof.Machine

/-- R36: QUIET under given tables and quiet runs. -/
def quietUnder (m : Memory) (runs : Vector Nat 12) : Bool :=
  (activeBank m).installedTowers.all fun t => decide (2 ≤ runs[t])

theorem Part.quietNow_eq (s : Part) : s.quietNow = quietUnder s.tables.mem s.table.quietRuns := rfl

/-- R145: the level, the target and the ramp that an asserted INHIBIT requires. -/
def RampEngine.AtZero (r : RampEngine) : Prop := r.level = 0 ∧ r.target = 0 ∧ r.inProgress = false

/-- R145: a ramp engine right after INHIBIT has been asserted. -/
def RampEngine.Silenced (r : RampEngine) : Prop := r.inhibit = true ∧ r.AtZero

/-- R140: what may wait at the Station Port once the level has become l. -/
def carries (l : Nat) (p : Option Nat) : Prop := p = none ∨ p = some l

/-- No raise of class B waits for its reaction. -/
def Core.NoneTurning (c : Core) : Prop := ∀ r ∈ c.raised, r.cls ≠ .b

/-- What one step inside an event can do to the core of the part. -/
inductive Core.Move : Core → Core → Prop
  /-- The part's POWER frame is handed over or sent. -/
  | power (c : Core) {p : Option Nat} (h : carries c.ramp.level p) : Core.Move c { c with power := p }
  /-- A raise is recorded, with the situation as it stands unless its class is not B. -/
  | raise (c : Core) (r : Raised)
      (h : r.cls = .b → r.situation.carrierUp = true → c.shape.carrierUp = true) :
      Core.Move c { c with raised := c.raised ++ [r] }
  /-- The reaction to what is owed begins. -/
  | forget (c : Core) : Core.Move c { c with raised := [] }
  /-- What an entry to IN_PATTERN set aside is owed again. -/
  | owe (c : Core) (l : List Raised) (h : c.shape = .inPattern) : Core.Move c { c with raised := l }
  /-- The quiet runs change and QUIET is evaluated. -/
  | quiet (c : Core) (runs : Vector Nat 12) :
      Core.Move c { c with quietRuns := runs, quiet := quietUnder c.tables.mem runs }
  /-- The READY bank is promoted: the towers stand and the schedule enable may differ, or QUIET is evaluated again. -/
  | promote (c : Core) {q : Bool} {runs : Vector Nat 12} (due : Bool) {l : List Raised}
      (hready : c.tables.staged = .ready)
      (hquiet : q = quietUnder c.tables.mem.promote runs ∨
        (runs = c.quietRuns ∧ q = c.quiet ∧
          (activeBank c.tables.mem.promote).towerCount = (activeBank c.tables.mem).towerCount))
      (hl : ∀ r ∈ l, r.cls = .a) :
      Core.Move c
        { c with
          tables := { c.tables with mem := c.tables.mem.promote, staged := .clean }
          quietRuns := runs, quiet := q, evalDue := due, raised := c.raised ++ l }
  /-- The evaluation that is due is taken. -/
  | evaluate (c : Core) : Core.Move c { c with evalDue := false }
  /-- The Ramp Engine goes on with INHIBIT as it is; a new level is handed over. -/
  | ramp (c : Core) {r : RampEngine} {p : Option Nat} (hi : r.inhibit = c.ramp.inhibit)
      (hz : c.ramp.inhibit = true → c.ramp.AtZero → r.AtZero)
      (hp : carries r.level p ∨ (p = c.power ∧ r.level = c.ramp.level)) :
      Core.Move c { c with ramp := r, power := p }
  /-- A ramp is ordered, or a level taken, where INHIBIT is released. -/
  | order (c : Core) {r : RampEngine} {p : Option Nat} (hc : c.shape.carrierUp = true ∨ c.shape = .inPattern)
      (hi : r.inhibit = c.ramp.inhibit)
      (hp : carries r.level p ∨ (p = c.power ∧ r.level = c.ramp.level)) :
      Core.Move c { c with ramp := r, power := p }
  /-- R79: RAMP_DOWN is entered and its ramp ordered. -/
  | descend (c : Core) {ph : Phase} {k : ChangeKind} {r : RampEngine} {p : Option Nat}
      (hs : c.shape = .changing ph k) (hpos : 0 < c.ramp.level) (hb : k = .revert → c.NoneTurning)
      (hi : r.inhibit = c.ramp.inhibit)
      (hp : carries r.level p ∨ (p = c.power ∧ r.level = c.ramp.level)) :
      Core.Move c { c with shape := .changing .rampDown k, ramp := r, power := p }
  /-- R80: MUTING is entered. -/
  | mute (c : Core) {ph : Phase} {k : ChangeKind} {r : RampEngine} {p : Option Nat}
      (hs : c.shape = .changing ph k) (hb : k = .revert → ph = .rampDown ∨ c.NoneTurning)
      (hr : r.Silenced) (hp : carries 0 p) :
      Core.Move c { c with shape := .changing .muting k, ramp := r, power := p }
  /-- R81: SWITCHING is entered. -/
  | switch (c : Core) {k : ChangeKind} (hs : c.shape = .changing .muting k) :
      Core.Move c { c with shape := .changing .switching k }
  /-- R82: PRESETTING is entered. -/
  | preset (c : Core) {ph : Phase} {k : ChangeKind} (hs : c.shape = .changing ph k) :
      Core.Move c { c with shape := .changing .presetting k }
  /-- R83: RAMP_TO_TRIM is entered and INHIBIT released. -/
  | release (c : Core) {ph : Phase} {k : ChangeKind} (hs : c.shape = .changing ph k) :
      Core.Move c
        { c with shape := .changing .rampToTrim k, ramp := { c.ramp with inhibit := false } }
  /-- R84, R85, R87: a phase with the carrier up follows another. -/
  | carrier (c : Core) {ph ph' : Phase} {k : ChangeKind} (hs : c.shape = .changing ph k)
      (h : ph.carrierUp = true) (h' : ph'.carrierUp = true) : Core.Move c { c with shape := .changing ph' k }
  /-- R88: a change ends in STOPPED. -/
  | stop (c : Core) {r : RampEngine} {p : Option Nat} (hr : r.Silenced) (hp : carries 0 p) :
      Core.Move c { c with shape := .stopped, ramp := r, power := p }
  /-- R94: HALTED is left. -/
  | recover (c : Core) (hs : c.shape = .halted) : Core.Move c { c with shape := .stopped }
  /-- R87: a change ends in IN_PATTERN. -/
  | arrive (c : Core) {k : ChangeKind} (hs : c.shape = .changing .rampFinal k) :
      Core.Move c { c with shape := .inPattern }
  /-- R159: a reversion is given up with the carrier up. -/
  | giveUp (c : Core) {ph : Phase} {r : Raised} (hs : c.shape = .changing ph .revert) (hr : r ∈ c.raised)
      (hb : r.cls = .b) (hc : r.situation.carrierUp = true) :
      Core.Move c { c with shape := .inPattern, raised := [] }
  /-- R93: HALTED is entered. -/
  | halt (c : Core) {r : RampEngine} {p : Option Nat} (hr : r.Silenced) (hp : carries 0 p) :
      Core.Move c { c with shape := .halted, ramp := r, power := p }
  /-- R77: a change starts. -/
  | start (c : Core) {k : ChangeKind} (hk : k ≠ .revert) :
      Core.Move c { c with shape := .changing .rampDown k }
  /-- R92: a change turns back. -/
  | turn (c : Core) {ph : Phase} {k : ChangeKind} (hs : c.shape = .changing ph k) (hb : c.NoneTurning) :
      Core.Move c { c with shape := .changing ph .revert }

/-! ### What every move keeps -/

/-- R145: what the shape asks of INHIBIT. -/
def Shape.InhibitAsks : Shape → Bool → Prop
  | .stopped, i | .halted, i => i = true
  | .inPattern, i => i = false
  | .changing ph _, i =>
    match ph with
    | .muting | .switching => i = true
    | .rampToTrim | .trimming | .verifying | .rampFinal => i = false
    | .rampDown | .presetting => True

/-- R145 within an event: INHIBIT, the level and the waiting POWER frame as the state asks; and while a raise of class B
made with the carrier up waits for its reaction, a reversion has the carrier up still. -/
structure Core.Sound (c : Core) : Prop where
  running : c.held = false
  inhibit : c.shape.InhibitAsks c.ramp.inhibit
  zero : c.ramp.inhibit = true → c.ramp.AtZero
  power : carries c.ramp.level c.power
  turning : ∀ r ∈ c.raised, r.cls = .b → r.situation.carrierUp = true → ∀ ph, c.shape = .changing ph .revert →
    ph.fromPresetting = true ∧ c.ramp.inhibit = false

theorem Shape.inhibitAsks_of_carrierUp {x : Shape} {i : Bool} (h : x.carrierUp = true ∨ x = .inPattern)
    (ha : x.InhibitAsks i) : i = false := by
  rcases h with h | rfl
  · cases x with
    | changing ph k => cases ph <;> simp_all [Shape.carrierUp, Phase.carrierUp, Shape.InhibitAsks]
    | _ => simp [Shape.carrierUp] at h
  · exact ha

theorem Shape.inhibitAsks_carrierUp {ph : Phase} {k : ChangeKind} (h : ph.carrierUp = true) :
    (Shape.changing ph k).InhibitAsks false := by
  cases ph <;> simp_all [Phase.carrierUp, Shape.InhibitAsks]

theorem Phase.fromPresetting_of_carrierUp {ph : Phase} (h : ph.carrierUp = true) : ph.fromPresetting = true := by
  cases ph <;> simp_all [Phase.carrierUp, Phase.fromPresetting]

theorem carries_new {l l' : Nat} {p q : Option Nat} (h : carries l p)
    (hq : carries l' q ∨ (q = p ∧ l' = l)) : carries l' q := by
  rcases hq with hq | ⟨rfl, rfl⟩ <;> assumption

theorem Core.Move.keeps_sound {c d : Core} (m : Core.Move c d) (h : c.Sound) : d.Sound := by
  obtain ⟨hh, hi, hz, hp, ht⟩ := h
  cases m with
  | power hp' => exact ⟨hh, hi, hz, hp', ht⟩
  | raise r hr =>
    refine ⟨hh, hi, hz, hp, fun x hx hb hc ph hs => ?_⟩
    rcases List.mem_append.mp hx with hx | hx
    · exact ht x hx hb hc ph hs
    · obtain rfl := List.mem_singleton.mp hx
      have hcar := hr hb hc
      have hs' : c.shape = .changing ph .revert := hs
      exact ⟨Phase.fromPresetting_of_carrierUp (by simpa [hs', Shape.carrierUp] using hcar),
        Shape.inhibitAsks_of_carrierUp (.inl hcar) hi⟩
  | forget => exact ⟨hh, hi, hz, hp, by simp⟩
  | owe l hs => exact ⟨hh, hi, hz, hp, fun _ _ _ _ ph hs' => by simp [hs] at hs'⟩
  | quiet runs => exact ⟨hh, hi, hz, hp, ht⟩
  | promote due hready hquiet hl =>
    refine ⟨hh, hi, hz, hp, fun x hx hb hc => ?_⟩
    rcases List.mem_append.mp hx with hx | hx
    · exact ht x hx hb hc
    · simp [hl x hx] at hb
  | evaluate => exact ⟨hh, hi, hz, hp, ht⟩
  | ramp hri hrz hrp =>
    refine ⟨hh, by simpa only [hri] using hi, fun h => ?_, carries_new hp hrp, by simpa only [hri] using ht⟩
    have h' := hri.symm.trans h
    exact hrz h' (hz h')
  | order hc hri hrp =>
    have hoff := hri.trans (Shape.inhibitAsks_of_carrierUp hc hi)
    exact ⟨hh, by simpa only [hri] using hi, fun h => by simp [hoff] at h, carries_new hp hrp,
      by simpa only [hri] using ht⟩
  | descend hs hpos hb hri hrp =>
    have hoff : c.ramp.inhibit = false := by
      by_contra hon
      have := (hz (by simpa using hon)).1
      omega
    refine ⟨hh, trivial, fun h => by simp [hri, hoff] at h, carries_new hp hrp, fun x hx hb' _ ph hs' => ?_⟩
    cases hs'
    exact absurd hb' (hb rfl x hx)
  | @mute ph k r p hs hb hr hrp =>
    refine ⟨hh, hr.1, fun _ => hr.2, by simpa only [hr.2.1] using hrp, fun x hx hb' hc' ph' hs' => ?_⟩
    cases hs'
    rcases hb rfl with rfl | hb
    · exact absurd (ht x hx hb' hc' _ hs).1 (by decide)
    · exact absurd hb' (hb x hx)
  | switch hs =>
    refine ⟨hh, by simpa only [hs, Shape.InhibitAsks] using hi, hz, hp, fun x hx hb' hc' ph' hs' => ?_⟩
    cases hs'
    exact absurd (ht x hx hb' hc' _ hs).1 (by decide)
  | preset hs =>
    refine ⟨hh, trivial, hz, hp, fun x hx hb' hc' ph' hs' => ?_⟩
    cases hs'
    exact ⟨rfl, (ht x hx hb' hc' _ hs).2⟩
  | release hs =>
    refine ⟨hh, rfl, fun h => by simp at h, hp, fun x hx hb' hc' ph' hs' => ?_⟩
    cases hs'
    exact ⟨rfl, rfl⟩
  | @carrier ph ph' k hs h h' =>
    have hoff := Shape.inhibitAsks_of_carrierUp (.inl (by simpa [hs, Shape.carrierUp] using h)) hi
    refine ⟨hh, by simpa only [hoff] using Shape.inhibitAsks_carrierUp h', hz, hp, fun x hx hb' hc' ph'' hs' => ?_⟩
    cases hs'
    exact ⟨Phase.fromPresetting_of_carrierUp h', hoff⟩
  | stop hr hrp => exact ⟨hh, hr.1, fun _ => hr.2, by simpa only [hr.2.1] using hrp, fun _ _ _ _ _ hs => by simp at hs⟩
  | recover hs => exact ⟨hh, by simpa only [hs, Shape.InhibitAsks] using hi, hz, hp, fun _ _ _ _ _ hs => by simp at hs⟩
  | arrive hs => exact ⟨hh, by simpa only [hs, Shape.InhibitAsks] using hi, hz, hp, fun _ _ _ _ _ hs => by simp at hs⟩
  | giveUp hs hr hb hc =>
    exact ⟨hh, (ht _ hr hb hc _ hs).2, hz, hp, by simp⟩
  | halt hr hrp => exact ⟨hh, hr.1, fun _ => hr.2, by simpa only [hr.2.1] using hrp, fun _ _ _ _ _ hs => by simp at hs⟩
  | start hk =>
    refine ⟨hh, trivial, hz, hp, fun _ _ _ _ _ hs => ?_⟩
    cases hs
    exact absurd rfl hk
  | turn hs hb =>
    refine ⟨hh, ?_, hz, hp, fun x hx hb' => absurd hb' (hb x hx)⟩
    simpa only [hs, Shape.InhibitAsks] using hi

/-- R36, R10: QUIET by its definition, over a Table Memory in canonical form. -/
def Core.QuietSound (c : Core) : Prop := c.tables.mem.wf = true ∧ c.quiet = quietUnder c.tables.mem c.quietRuns

/-- QUIET depends on Table Memory by the tower count alone. -/
theorem quietUnder_congr {m m' : Memory} (h : (activeBank m').towerCount = (activeBank m).towerCount)
    (runs : Vector Nat 12) : quietUnder m' runs = quietUnder m runs := by
  simp only [quietUnder, Bank.installedTowers]
  have : (activeBank m').installed = (activeBank m).installed := funext fun t => by
    simp only [Bank.installed, h]
  rw [this]

theorem Core.Move.keeps_quietSound {c d : Core} (m : Core.Move c d) (h : c.QuietSound) : d.QuietSound := by
  obtain ⟨hm, hq⟩ := h
  cases m with
  | quiet runs => exact ⟨hm, rfl⟩
  | promote due hready hquiet hl =>
    refine ⟨(Memory.promote_spec hm).1, ?_⟩
    rcases hquiet with hquiet | ⟨rfl, rfl, ht⟩
    · exact hquiet
    · exact hq.trans (quietUnder_congr ht _).symm
  | _ => exact ⟨hm, hq⟩

/-- R9, R182: an evaluation is due only behind a promotion. -/
def Core.DueSound (c : Core) : Prop := c.evalDue = true → c.tables.staged = .clean

theorem Core.Move.keeps_dueSound {c d : Core} (m : Core.Move c d) (h : c.DueSound) : d.DueSound := by
  cases m with
  | promote => exact fun _ => rfl
  | evaluate => exact fun h => by simp at h
  | _ => exact h

/-- With the staged bank not READY nothing is promoted, so no evaluation comes to be due. -/
theorem Core.Move.keeps_notDue {c d : Core} (m : Core.Move c d)
    (h : c.held = false ∧ c.evalDue = false ∧ c.tables.staged ≠ .ready) :
    d.held = false ∧ d.evalDue = false ∧ d.tables.staged ≠ .ready := by
  cases m with
  | promote due hready => exact absurd hready h.2.2
  | evaluate => exact ⟨h.1, rfl, h.2.2⟩
  | _ => exact h

theorem Core.Move.keeps_timer {c d : Core} (m : Core.Move c d) : d.timer = c.timer := by
  cases m <;> rfl

/-- R5: each byte of the licence region reads as before. -/
def Memory.SameLicence (m m' : Memory) : Prop := m'.wf = true ∧ ∀ a, a < 256 → m'.read a = m.read a

theorem Core.Move.keeps_licence {m : Memory} {c d : Core} (mv : Core.Move c d) (h : m.SameLicence c.tables.mem) :
    m.SameLicence d.tables.mem := by
  cases mv with
  | promote =>
    obtain ⟨hwf, hread⟩ := Memory.promote_spec h.1
    refine ⟨hwf, fun a ha => ?_⟩
    rw [hread a, if_neg (by omega)]
    exact h.2 a ha
  | _ => exact h

/-- What several steps inside an event can do to the core of the part. -/
structure Part.Moves (s t : Part) : Prop where
  path : Relation.ReflTransGen Core.Move s.core t.core

theorem Core.keeps_of_moves {P : Core → Prop} (hP : ∀ {c d : Core}, Core.Move c d → P c → P d) {c d : Core}
    (m : Relation.ReflTransGen Core.Move c d) (h : P c) : P d := by
  induction m with
  | refl => exact h
  | tail _ mv ih => exact hP mv ih

theorem Part.Moves.keeps {P : Core → Prop} (hP : ∀ {c d : Core}, Core.Move c d → P c → P d) {s t : Part}
    (m : s.Moves t) (h : P s.core) : P t.core :=
  Core.keeps_of_moves hP m.path h

end Sys2Proof.Machine
end

section
/-! SUPPORT. The updates that leave the outline, or the core, of the part as it is. -/

namespace Sys2Proof.Machine

/-! ### Updates of one field -/

@[simp] theorem Part.setStore_outline (s : Part) (x : PairingStore) : (s.setStore x).outline = s.outline := rfl
@[simp] theorem Part.setCorr_outline (s : Part) (x : Correlator) : (s.setCorr x).outline = s.outline := rfl
@[simp] theorem Part.setRound_outline (s : Part) (x : VerdictUnit) : (s.setRound x).outline = s.outline := rfl
@[simp] theorem Part.setWalk_outline (s : Part) (x : SwitchEngine) : (s.setWalk x).outline = s.outline := rfl
@[simp] theorem Part.setFaults_outline (s : Part) (x : FaultUnit) : (s.setFaults x).outline = s.outline := rfl
@[simp] theorem Part.setFree_outline (s : Part) (x : Nat) : (s.setFree x).outline = s.outline := rfl

@[simp] theorem Part.setField_core (s : Part) (x : FieldPort) : (s.setField x).core = s.core := rfl

theorem Part.setTable_outline {s : Part} {x : ReadingTable} (hq : x.quiet = s.table.quiet)
    (hr : x.quietRuns = s.table.quietRuns) : (s.setTable x).outline = s.outline := by
  simp only [Part.outline, Part.setTable, hq, hr]

theorem Part.setTrim_outline {s : Part} {x : TrimEngine} (he : x.exhausted = s.trim.exhausted)
    (ha : x.allowance = s.trim.allowance) : (s.setTrim x).outline = s.outline := by
  simp only [Part.outline, Part.setTrim, he, ha]

theorem Part.setSeq_outline {s : Part} {x : Sequencer} (hm : x.mode.outline = s.seq.mode.outline)
    (ha : x.active = s.seq.active) (hs : x.slot = s.seq.slot) : (s.setSeq x).outline = s.outline := by
  simp only [Part.outline, Part.setSeq, hm, ha, hs]

theorem Part.setElems_outline {s : Part} {x : Vector ElemRecord 40}
    (h : x.map ElemRecord.trimCount = s.elems.map ElemRecord.trimCount) : (s.setElems x).outline = s.outline := by
  simp only [Part.outline, Part.setElems, h]

@[simp] theorem Part.setPins_core (s : Part) (x : Pins) : (s.setPins x).core = s.core := rfl
@[simp] theorem Part.setLines_core (s : Part) (x : Lines) : (s.setLines x).core = s.core := rfl
@[simp] theorem Part.setUptime_core (s : Part) (x : Uptime) : (s.setUptime x).core = s.core := rfl
@[simp] theorem Part.setClock_core (s : Part) (x : Clock) : (s.setClock x).core = s.core := rfl
@[simp] theorem Part.setTrim_core (s : Part) (x : TrimEngine) : (s.setTrim x).core = s.core := rfl
@[simp] theorem Part.setElems_core (s : Part) (x : Vector ElemRecord 40) : (s.setElems x).core = s.core := rfl

theorem Part.setSeq_core {s : Part} {x : Sequencer} (h : x.mode.shape = s.seq.mode.shape) :
    (s.setSeq x).core = s.core := by
  simp only [Part.core_eq, Part.setSeq, h]

theorem Part.setSched_core {s : Part} {x : Scheduler} (h : x.evalDue = s.sched.evalDue) :
    (s.setSched x).core = s.core := by
  simp only [Part.core_eq, Part.setSched, h]

theorem Part.setSeq_core_eq (s : Part) (x : Sequencer) :
    (s.setSeq x).core = { s.core with shape := x.mode.shape } := by
  simp only [Part.core_eq, Part.setSeq]

@[simp] theorem Part.setRaised_core_eq (s : Part) (l : List Raised) :
    (s.setRaised l).core = { s.core with raised := l } := rfl

/-! ### Routine work, which leaves the outline as it is -/

/-- A rewriting of the change record that keeps it in outline. -/
theorem Part.modifyChange_outline {s : Part} {f : Change → Change} (h : ∀ c, (f c).outline = c.outline) :
    (s.modifyChange f).outline = s.outline := by
  unfold Part.modifyChange
  split
  next c hc => exact Part.setSeq_outline (by simp only [hc, Mode.outline, h]) rfl rfl
  next => rfl

/-- A rewriting of the change record that keeps its phase and kind. -/
theorem Part.modifyChange_core {s : Part} {f : Change → Change} (hp : ∀ c, (f c).phase = c.phase)
    (hk : ∀ c, (f c).kind = c.kind) : (s.modifyChange f).core = s.core := by
  unfold Part.modifyChange
  split
  next c hc => exact Part.setSeq_core (by simp only [hc, Mode.shape, hp, hk])
  next => rfl

theorem Part.modifyChange_core_eq {s : Part} {c : Change} (hc : s.seq.mode = .changing c) (f : Change → Change) :
    (s.modifyChange f).core = { s.core with shape := .changing (f c).phase (f c).kind } := by
  simp only [Part.modifyChange, hc, Part.setSeq_core_eq, Mode.shape]

@[simp] theorem Part.setGroup_outline (s : Part) (k : Nat) : (s.setGroup k).outline = s.outline :=
  Part.modifyChange_outline fun _ => rfl

@[simp] theorem Part.setPhaseDeadline_outline (s : Part) (d : Option Uptime) :
    (s.setPhaseDeadline d).outline = s.outline :=
  Part.modifyChange_outline fun _ => rfl

theorem mapAll_map {α β γ : Type} {n : Nat} (v : Vector α n) (f : Fin n → α → β) (g : β → γ) (k : α → γ)
    (h : ∀ i a, g (f i a) = k a) : (mapAll v f).map g = v.map k := by
  ext i hi
  simp [mapAll, h]

theorem setAt_map {α γ : Type} {n : Nat} (v : Vector α n) (i : Fin n) (x : α) (g : α → γ) (h : g x = g v[i]) :
    (setAt v i x).map g = v.map g := by
  ext j hj
  simp only [setAt, Vector.getElem_map, Vector.getElem_set]
  split
  · next e =>
    subst e
    exact h
  · rfl

@[simp] theorem Part.modifyElem_core (s : Part) (e : Elem) (f : ElemRecord → ElemRecord) :
    (s.modifyElem e f).core = s.core := rfl

@[simp] theorem Part.endRecords_outline (s : Part) (p : FaultRecord → Bool) :
    (s.endRecords p).outline = s.outline := by
  unfold Part.endRecords
  dsimp only
  split <;> rfl

@[simp] theorem Part.endCondition_outline (s : Part) (k : FaultKind) (o : FaultObject) :
    (s.endCondition k o).outline = s.outline := Part.endRecords_outline _ _

@[simp] theorem Part.endEventRecords_outline (s : Part) : s.endEventRecords.outline = s.outline :=
  Part.endRecords_outline _ _

@[simp] theorem Part.endStale_outline (ts : List Tower) : ∀ s : Part, (s.endStale ts).outline = s.outline := by
  induction ts with
  | nil => exact fun _ => rfl
  | cons t ts ih => exact fun s => (ih _).trans (Part.endCondition_outline _ _ _)

@[simp] theorem Part.restart_outline (s : Part) (c : MonitorConfig) : (s.restart c).outline = s.outline := by
  have hclear : ∀ s : Part, s.clearSettle.outline = s.outline := fun s =>
    Part.setElems_outline (mapAll_map _ _ _ _ fun _ _ => rfl)
  have hstate : ∀ s : Part, (s.restartState c).outline = s.outline := fun s => by cases s; rfl
  rw [Part.restart, hclear, hstate, Part.endStale_outline]

@[simp] theorem Part.restartPattern_outline (s : Part) (p : Pat) : (s.restartPattern p).outline = s.outline :=
  Part.restart_outline _ _

@[simp] theorem Part.restartIdle_outline (s : Part) : s.restartIdle.outline = s.outline := Part.restart_outline _ _

@[simp] theorem Part.idleWalk_outline (s : Part) : s.idleWalk.outline = s.outline := rfl

@[simp] theorem Part.stopEngines_outline (s : Part) : s.stopEngines.outline = s.outline := rfl

@[simp] theorem Part.nextFree_outline (s : Part) : s.nextFree.outline = s.outline := rfl

/-! ### The Field Port -/

@[simp] theorem Part.disown_outline (s : Part) (e : Elem) : (s.disown e).outline = s.outline := rfl

end Sys2Proof.Machine
end

section
/-! SUPPORT. The ports, the raises and the Ramp Engine, as moves of the core. -/

namespace Sys2Proof.Machine

/-! ### Several moves -/

theorem Part.Moves.refl (s : Part) : s.Moves s := ⟨Relation.ReflTransGen.refl⟩

theorem Part.Moves.trans {s t u : Part} (h : s.Moves t) (h' : t.Moves u) : s.Moves u :=
  ⟨Relation.ReflTransGen.trans h.path h'.path⟩

theorem Part.Moves.of_core {s t : Part} (h : t.core = s.core) : s.Moves t :=
  ⟨by rw [h]⟩

theorem Part.Moves.of_outline {s t : Part} (h : t.outline = s.outline) : s.Moves t :=
  Part.Moves.of_core (Part.core_of_outline h)

theorem Part.Moves.of_move {s t : Part} {c : Core} (h : Core.Move s.core c) (e : t.core = c) : s.Moves t :=
  ⟨Relation.ReflTransGen.single (e ▸ h)⟩

theorem Part.Moves.foldl {α : Type} {f : Part → α → Part} (h : ∀ (s : Part) (a : α), s.Moves (f s a)) (l : List α) :
    ∀ s : Part, s.Moves (l.foldl f s) := by
  induction l with
  | nil => exact Part.Moves.refl
  | cons a l ih => exact fun s => (h s a).trans (ih _)

/-! ### A choice at the Station Port, which may send the waiting POWER frame -/

/-- The cores agree, but that a POWER frame that waits may have been sent. -/
structure Part.Sends (s t : Part) : Prop where
  core : t.core = { s.core with power := t.station.power }
  power : t.station.power = none ∨ t.station.power = s.station.power

theorem Part.Sends.of_core {s t : Part} (h : t.core = s.core) : s.Sends t := by
  have hp : t.station.power = s.station.power := congrArg Core.power h
  exact ⟨by rw [h, hp]; rfl, .inr hp⟩

theorem Part.Sends.of_outline {s t : Part} (h : t.outline = s.outline) : s.Sends t :=
  Part.Sends.of_core (Part.core_of_outline h)

theorem Part.Sends.refl (s : Part) : s.Sends s := Part.Sends.of_core rfl

theorem Part.Sends.trans {s t u : Part} (h : s.Sends t) (h' : t.Sends u) : s.Sends u := by
  refine ⟨by rw [h'.core, h.core], ?_⟩
  rcases h'.power with e | e
  · exact .inl e
  · rw [e]
    exact h.power

theorem Part.Sends.moves {s t : Part} (h : s.Sends t) : s.Moves t := by
  rcases h.power with e | e
  · exact Part.Moves.of_move (.power s.core (.inl e)) h.core
  · exact Part.Moves.of_core (by rw [h.core, e]; rfl)

theorem Part.Sends.shape {s t : Part} (h : s.Sends t) : t.seq.mode.shape = s.seq.mode.shape := by
  have := congrArg Core.shape h.core
  simpa only [Part.core_shape] using this

theorem Part.Sends.ramp {s t : Part} (h : s.Sends t) : t.ramp = s.ramp := congrArg Core.ramp h.core

theorem Part.Sends.raised {s t : Part} (h : s.Sends t) : t.raised = s.raised := congrArg Core.raised h.core

theorem Part.Sends.foldl {α : Type} {f : Part → α → Part} (h : ∀ (s : Part) (a : α), s.Sends (f s a)) (l : List α) :
    ∀ s : Part, s.Sends (l.foldl f s) := by
  induction l with
  | nil => exact Part.Sends.refl
  | cons a l ih => exact fun s => (h s a).trans (ih _)

/-- A change of the Station Port after which the POWER frame that waits is the same or gone. -/
theorem Part.setStation_sends {s : Part} {x : StationPort} (h : x.power = none ∨ x.power = s.station.power) :
    s.Sends (s.setStation x) :=
  ⟨rfl, h⟩

theorem Part.stationChoice_sends (s : Part) : s.Sends s.stationChoice := by
  unfold Part.stationChoice
  split
  next => exact Part.setStation_sends (.inr rfl)
  next =>
    split
    next => exact Part.setStation_sends (.inl rfl)
    next =>
      split
      next => exact Part.setStation_sends (.inr rfl)
      next =>
        split
        next => exact Part.setStation_sends (.inr rfl)
        next => exact Part.Sends.refl s

theorem Part.stationKick_sends (s : Part) : s.Sends s.stationKick := by
  unfold Part.stationKick
  split
  next => exact s.stationChoice_sends
  next => exact Part.Sends.refl s

/-- A change of the Station Port, after which a port that does not transmit chooses. -/
theorem Part.setStation_kick_sends {s : Part} {x : StationPort} (h : x.power = none ∨ x.power = s.station.power) :
    s.Sends (s.setStation x).stationKick :=
  (Part.setStation_sends h).trans (Part.stationKick_sends _)

theorem Part.reply_sends (s : Part) (f : Frame) : s.Sends (s.reply f) := by
  unfold Part.reply
  split
  · exact Part.setStation_kick_sends (.inr rfl)
  · exact Part.Sends.refl s

theorem Part.answer_sends (s : Part) (src tag : Byte) (c : RequestCode) (r : Result) (data : List Byte) :
    s.Sends (s.answer src tag c r data) := s.reply_sends _

theorem Part.refuse_sends (s : Part) (f : Frame) (r : RefusedReason) : s.Sends (s.refuse f r) := s.reply_sends _

theorem Part.handMonitor_sends (s : Part) (f : Frame) : s.Sends (s.handMonitor f) := by
  unfold Part.handMonitor
  split
  · exact Part.setStation_kick_sends (.inr rfl)
  · exact Part.Sends.refl s

@[simp] theorem Part.countDiscard_core (s : Part) (p : Port) : (s.countDiscard p).core = s.core := by
  cases p <;> rfl

theorem Part.queueStation_sends (s : Part) (o : Port) (f : Frame) : s.Sends (s.queueStation o f) := by
  unfold Part.queueStation
  split
  · exact Part.setStation_kick_sends (.inr rfl)
  · exact Part.Sends.of_core (s.countDiscard_core o)

@[simp] theorem Part.markPower_core (s : Part) : s.markPower.core = s.core := rfl

/-- The POWER frame that a handing over leaves waiting. -/
theorem Part.handPower_core (s : Part) (l : Nat) :
    ∃ p, carries l p ∧ (s.handPower l).core = { s.core with power := p } := by
  have h := Part.stationKick_sends (s.setStation { s.station with power := some l })
  exact ⟨_, h.power, h.core⟩

/-! ### The Field Port, whose choices may refuse frames that are withdrawn -/

theorem Part.withdrawField_sends (s : Part) (x : FieldItem) : s.Sends (s.withdrawField x) := by
  unfold Part.withdrawField
  refine Part.Sends.trans ?_ (Part.refuse_sends _ _ _)
  split
  · exact Part.Sends.of_core rfl
  · exact Part.Sends.refl s

theorem Part.chooseQueue_sends (l : List FieldItem) : ∀ s : Part, s.Sends (Part.chooseQueue l s) := by
  induction l with
  | nil => exact fun s => Part.Sends.of_core rfl
  | cons x l ih =>
    intro s
    rw [Part.chooseQueue]
    split
    · exact (s.withdrawField_sends x).trans (ih _)
    · exact Part.Sends.of_core rfl

theorem Part.chooseCommand_sends (l : List PartFrame) (s : Part) : s.Sends (Part.chooseCommand l s) := by
  induction l with
  | nil => exact (Part.Sends.of_core (s.setField_core _)).trans (Part.chooseQueue_sends _ _)
  | cons c l ih =>
    rw [Part.chooseCommand]
    split
    · exact Part.Sends.of_core rfl
    · exact ih

theorem Part.fieldChoice_sends (s : Part) : s.Sends s.fieldChoice := by
  unfold Part.fieldChoice
  split
  · exact Part.Sends.of_core rfl
  · exact Part.chooseCommand_sends _ s

theorem Part.fieldKick_sends (s : Part) : s.Sends s.fieldKick := by
  unfold Part.fieldKick
  split
  · exact s.fieldChoice_sends
  · exact Part.Sends.refl s

/-- A change of the Field Port, after which a port that does not transmit chooses. -/
theorem Part.setField_kick_sends (s : Part) (x : FieldPort) : s.Sends (s.setField x).fieldKick :=
  (Part.Sends.of_core (s.setField_core x)).trans (Part.fieldKick_sends _)

theorem Part.handBlockStart_sends (s : Part) (i : BitVec 16) : s.Sends (s.handBlockStart i) :=
  s.setField_kick_sends _

theorem Part.handCommand_sends (s : Part) (e : Elem) (o : Order) : s.Sends (s.handCommand e o) :=
  s.setField_kick_sends _

theorem Part.placeField_sends (s : Part) (f : Frame) (o : Option Elem) : s.Sends (s.placeField f o) :=
  s.setField_kick_sends _

theorem Part.queueField_sends (s : Part) (f : Frame) : s.Sends (s.queueField f) := by
  unfold Part.queueField
  split
  · exact s.placeField_sends f none
  · exact Part.Sends.of_core (s.countDiscard_core .station)

theorem Part.endTransmission_sends (s : Part) (p : Port) : s.Sends (s.endTransmission p) := by
  unfold Part.endTransmission
  cases p <;> dsimp only <;> split
  · exact (Part.Sends.of_core (s.setField_core _)).trans (Part.fieldChoice_sends _)
  · exact Part.Sends.refl s
  · exact (Part.setStation_sends (x := { s.station with sending := none }) (.inr rfl)).trans
      (Part.stationChoice_sends _)
  · exact Part.Sends.refl s

theorem Part.linkAlive_core (s : Part) (p : Port) : (s.linkAlive p).core = s.core := by
  unfold Part.linkAlive
  cases p <;> dsimp only
  · split
    · rfl
    · exact Part.core_of_outline (Part.endCondition_outline _ _ _)
  · rfl

/-! ### Raises -/

@[simp] theorem Part.raiseUnder_core (s : Part) (k : FaultKind) (o : FaultObject) (cls : FaultClass) (sit : Situation)
    (pats : Option (Option Pat × Option Pat)) :
    (s.raiseUnder k o cls sit pats).core =
      { s.core with raised := s.raised ++ [{ cls := cls, kind := k, situation := sit, pats := pats }] } := rfl

@[simp] theorem Part.raiseUnder_seq (s : Part) (k : FaultKind) (o : FaultObject) (cls : FaultClass) (sit : Situation)
    (pats : Option (Option Pat × Option Pat)) : (s.raiseUnder k o cls sit pats).seq = s.seq := rfl

@[simp] theorem Part.raise_seq (s : Part) (k : FaultKind) (o : FaultObject) (cls : FaultClass) :
    (s.raise k o cls).seq = s.seq := rfl

theorem Part.situation_carrierUp {s : Part} (h : s.situation.carrierUp = true) : s.seq.mode.shape.carrierUp = true := by
  unfold Part.situation at h
  split at h <;> simp_all [Situation.carrierUp, Mode.shape, Shape.carrierUp]

theorem Part.raise_moves (s : Part) (k : FaultKind) (o : FaultObject) (cls : FaultClass) :
    s.Moves (s.raise k o cls) :=
  Part.Moves.of_move (.raise s.core _ fun _ h => by simpa only [Part.core_shape] using Part.situation_carrierUp h)
    (s.raiseUnder_core k o cls s.situation s.changePats)

theorem Part.raiseEach_moves (k : FaultKind) (cls : FaultClass) (os : List FaultObject) (s : Part) :
    s.Moves (s.raiseEach k cls os) :=
  Part.Moves.foldl (fun s o => s.raise_moves k o cls) os s

theorem Part.raiseEach_seq (k : FaultKind) (cls : FaultClass) (os : List FaultObject) :
    ∀ s : Part, (s.raiseEach k cls os).seq = s.seq := by
  induction os with
  | nil => exact fun _ => rfl
  | cons o os ih => exact fun s => ih _

theorem Part.raiseStale_moves (s : Part) (ts : List Tower) : s.Moves (s.raiseStale ts) :=
  Part.raiseEach_moves _ _ _ s

theorem Part.linkLost_moves (s : Part) (p : Port) : s.Moves (s.linkLost p) := by
  cases p
  · exact (Part.Moves.of_core (s.setField_core _)).trans (Part.raise_moves _ _ .nothing _)
  · exact (Part.setStation_sends (x := { s.station with link := Link.down, monitor := none }) (.inr rfl)).moves.trans
      (Part.raise_moves _ _ .nothing .d)

/-! ### The Ramp Engine -/

/-- The Ramp Engine goes on at its level, with INHIBIT as it is. -/
theorem Part.setRamp_moves {s : Part} {r : RampEngine} (hi : r.inhibit = s.ramp.inhibit)
    (hl : r.level = s.ramp.level) (ht : r.target = s.ramp.target ∨ r.target = s.ramp.level)
    (hp : r.inProgress = true → s.ramp.inProgress = true) : s.Moves (s.setRamp r) := by
  refine Part.Moves.of_move (.ramp s.core hi (fun _ hz => ?_) (.inr ⟨rfl, hl⟩)) rfl
  obtain ⟨hlevel, htarget, hidle⟩ := hz
  refine ⟨hl.trans hlevel, ?_, ?_⟩
  · rcases ht with e | e
    · exact e.trans htarget
    · exact e.trans hlevel
  · by_contra hr
    have := hp (by simpa using hr)
    simp only [Part.core_ramp] at hidle
    simp [hidle] at this

theorem Part.finish_moves (s : Part) : s.Moves (s.setRamp s.ramp.finish) :=
  Part.setRamp_moves rfl rfl (.inl rfl) (by simp [RampEngine.finish])

theorem Part.endRamp_moves (s : Part) : s.Moves s.endRamp :=
  Part.setRamp_moves rfl rfl (.inr rfl) (by simp [RampEngine.stop])

theorem Part.testRamp_moves (s : Part) : s.Moves s.testRamp := by
  unfold Part.testRamp
  split
  · exact s.finish_moves
  · exact Part.Moves.refl s

/-- The ramp that an order leaves. -/
theorem Part.orderRamp_core (s : Part) (level : Nat) : ∃ r : RampEngine, r.inhibit = s.ramp.inhibit ∧
    r.level = s.ramp.level ∧ (s.orderRamp level).core = { s.core with ramp := r } :=
  ⟨(s.orderRamp level).ramp, rfl, rfl, rfl⟩

theorem Part.orderRamp_moves {s : Part} (level : Nat)
    (h : s.seq.mode.shape.carrierUp = true ∨ s.seq.mode.shape = .inPattern) : s.Moves (s.orderRamp level) := by
  obtain ⟨r, hi, hl, e⟩ := s.orderRamp_core level
  exact Part.Moves.of_move (.order s.core (by simpa only [Part.core_shape] using h) hi (.inr ⟨rfl, hl⟩)) e

theorem Part.rampInPattern_moves {s : Part} (level : Nat) (h : s.seq.mode.shape = .inPattern) :
    s.Moves (s.rampInPattern level) :=
  (Part.orderRamp_moves level (.inr h)).trans (Part.testRamp_moves _)

theorem RampEngine.advance_atZero {r : RampEngine} (h : r.AtZero) (licensed : Nat) (now : Uptime) :
    (r.advance licensed now).AtZero := by
  obtain ⟨hl, ht, hp⟩ := h
  simp [RampEngine.advance, RampEngine.AtZero, hl, ht, hp, levelGap]

theorem Part.sendRamp_moves (s : Part) : s.Moves s.sendRamp := by
  obtain ⟨p, hp, e⟩ :=
    (s.setRamp (s.ramp.advance s.licensedNow s.uptime)).handPower_core (s.ramp.advance s.licensedNow s.uptime).level
  exact Part.Moves.of_move (.ramp s.core (r := s.ramp.advance s.licensedNow s.uptime) rfl
    (fun _ hz => RampEngine.advance_atZero hz _ _) (.inl hp)) e

/-- R138: T and L held to a licensed level. -/
def RampEngine.heldTo (r : RampEngine) (licensed : Nat) : RampEngine :=
  { r with target := min r.target licensed, level := min r.level licensed }

theorem RampEngine.heldTo_atZero {r : RampEngine} (h : r.AtZero) (licensed : Nat) : (r.heldTo licensed).AtZero :=
  ⟨by simp [RampEngine.heldTo, h.1], by simp [RampEngine.heldTo, h.2.1], h.2.2⟩

theorem Part.clampLicence_eq (s : Part) : s.clampLicence =
    match s.governing with
    | none => s
    | some p =>
      if s.tables.mem.licensedLevel p < s.ramp.level then
        (s.setRamp (s.ramp.heldTo (s.tables.mem.licensedLevel p))).handPower (s.tables.mem.licensedLevel p)
      else s.setRamp (s.ramp.heldTo (s.tables.mem.licensedLevel p)) := rfl

/-- R138, R144: what the licence clamp leaves. -/
theorem Part.clampLicence_core (s : Part) : ∃ r p, r.inhibit = s.ramp.inhibit ∧ (s.ramp.AtZero → r.AtZero) ∧
    (carries r.level p ∨ (p = s.station.power ∧ r.level = s.ramp.level)) ∧
    s.clampLicence.core = { s.core with ramp := r, power := p } := by
  rw [Part.clampLicence_eq]
  cases s.governing with
  | none => exact ⟨s.ramp, s.station.power, rfl, id, .inr ⟨rfl, rfl⟩, rfl⟩
  | some q =>
    dsimp only
    split
    next hlt =>
      obtain ⟨p, hp, e⟩ := Part.handPower_core (s.setRamp (s.ramp.heldTo (s.tables.mem.licensedLevel q)))
        (s.tables.mem.licensedLevel q)
      refine ⟨s.ramp.heldTo (s.tables.mem.licensedLevel q), p, rfl, fun hz => RampEngine.heldTo_atZero hz _, .inl ?_, e⟩
      simpa only [RampEngine.heldTo, Nat.min_eq_right hlt.le] using hp
    next hge =>
      exact ⟨s.ramp.heldTo _, _, rfl, fun hz => RampEngine.heldTo_atZero hz _,
        .inr ⟨rfl, Nat.min_eq_left (not_lt.mp hge)⟩, rfl⟩

theorem Part.clampLicence_moves (s : Part) : s.Moves s.clampLicence := by
  obtain ⟨r, p, hi, hz, hp, e⟩ := s.clampLicence_core
  exact Part.Moves.of_move (.ramp s.core hi (fun _ => hz) hp) e

/-- R145: what an assertion of INHIBIT leaves. -/
theorem Part.forceZero_core (s : Part) :
    ∃ r p, r.Silenced ∧ carries 0 p ∧ s.forceZero.core = { s.core with ramp := r, power := p } := by
  obtain ⟨p, hp, e⟩ := Part.handPower_core (s.setRamp
    { s.ramp with
      level := 0, target := 0, inProgress := false, deadline := none, nextSend := none, inhibit := true }) 0
  exact ⟨_, p, ⟨rfl, rfl, rfl, rfl⟩, hp, e⟩

theorem Part.raiseTrip_moves (s : Part) : s.Moves s.raiseTrip := s.raise_moves _ _ _

end Sys2Proof.Machine
end

section
/-! SUPPORT. Commands, presets, the pending slot and the phases of a change, as moves of the core. -/

namespace Sys2Proof.Machine

/-! ### Commands, steps and presets -/

theorem Part.recordCommand_core (s : Part) (e : Elem) (o : Origin) (x : Order) (b : Bool) :
    (s.recordCommand e o x b).core = s.core := rfl

theorem Part.commandPart_sends (s : Part) (e : Elem) (x : Order) (b : Bool) : s.Sends (s.commandPart e x b) :=
  (Part.Sends.of_core (s.recordCommand_core e .part x b)).trans (Part.handCommand_sends _ e x)

theorem Part.settleStep_sends (s : Part) (x : SwitchStep) : s.Sends (s.settleStep x).2 := by
  unfold Part.settleStep
  split
  · exact s.commandPart_sends _ _ _
  · exact Part.Sends.refl s

theorem Part.settleSteps_sends (l : List SwitchStep) : ∀ s : Part, s.Sends (Part.settleSteps l s).2 := by
  induction l with
  | nil => exact Part.Sends.refl
  | cons x l ih => exact fun s => (s.settleStep_sends x).trans (ih _)

theorem Part.setWalk_sends (s : Part) (x : SwitchEngine) : s.Sends (s.setWalk x) :=
  Part.Sends.of_outline (s.setWalk_outline x)

theorem Part.walkFrom_sends (l : List (List SwitchStep)) : ∀ (k : Nat) (s : Part),
    s.Sends (Part.walkFrom l k s).2 := by
  induction l with
  | nil => exact fun _ s => Part.Sends.refl s
  | cons g gs ih =>
    intro k s
    have hgroup : s.Sends (s.setGroup k) := Part.Sends.of_outline (s.setGroup_outline k)
    have hsteps := hgroup.trans (Part.settleSteps_sends g _)
    rw [Part.walkFrom]
    dsimp only
    split
    · exact hgroup.trans (Part.setWalk_sends _ _)
    · split
      · split
        · exact (hsteps.trans (Part.setWalk_sends _ _)).trans (ih _ _)
        · exact hsteps.trans (Part.setWalk_sends _ _)
      · exact hsteps.trans (Part.setWalk_sends _ _)

theorem Part.presetEntry_sends (s : Part) (a : ActuatorEntry) : s.Sends (s.presetEntry a) := by
  unfold Part.presetEntry
  split
  · split
    · exact Part.Sends.of_core rfl
    · exact s.commandPart_sends _ _ _
  · exact Part.Sends.refl s

theorem Part.presetAll_sends (s : Part) (p : Pat) : s.Sends (s.presetAll p) :=
  Part.Sends.foldl Part.presetEntry_sends _ s

theorem Part.presetAgain_sends (s : Part) (p : Pat) (e : Elem) : s.Sends (s.presetAgain p e) := by
  unfold Part.presetAgain
  have h : ∀ x, s.Sends (s.setTrim x) := fun _ => Part.Sends.of_core rfl
  dsimp only
  split
  · exact (h _).trans (Part.presetEntry_sends _ _)
  · exact h _

/-! ### The pending slot and the substatus -/

theorem Part.dropRequest_core (s : Part) (src : Source) : ∃ r : Raised, r.cls = .d ∧
    (s.dropRequest src).core = { s.core with raised := s.raised ++ [r] } :=
  ⟨_, rfl, rfl⟩

theorem Part.dropRequest_moves (s : Part) (src : Source) : s.Moves (s.dropRequest src) :=
  (s.raise_moves .requestDropped (.request src) .d).trans (Part.Moves.of_core (Part.setSeq_core rfl))

theorem Part.overrunRequest_moves (s : Part) (src : Source) : s.Moves (s.overrunRequest src) :=
  (s.raise_moves .requestOverrun (.request src) .d).trans (Part.Moves.of_core (Part.setSeq_core rfl))

/-- R90: what emptying the slot leaves. -/
theorem Part.emptySlot_core (s : Part) : ∃ l : List Raised, (∀ r ∈ l, r.cls = .d) ∧
    s.emptySlot.core = { s.core with raised := s.raised ++ l } := by
  unfold Part.emptySlot
  split
  next => exact ⟨[], by simp, by rw [List.append_nil]; rfl⟩
  next x _ =>
    have hslot : (s.setSeq { s.seq with slot := none }).core = s.core := Part.setSeq_core rfl
    obtain ⟨r, hr, e⟩ := (s.setSeq { s.seq with slot := none }).dropRequest_core x.source
    refine ⟨[r], by simpa only [List.mem_singleton, forall_eq] using hr, ?_⟩
    rw [e, hslot]
    rfl

theorem Part.emptySlot_moves (s : Part) : s.Moves s.emptySlot := by
  unfold Part.emptySlot
  split
  next => exact Part.Moves.refl s
  next x _ =>
    have hslot : s.Moves (s.setSeq { s.seq with slot := none }) := Part.Moves.of_core (Part.setSeq_core rfl)
    exact hslot.trans (Part.dropRequest_moves _ _)

theorem Part.offerSlot_moves (s : Part) (r : Request) : s.Moves (s.offerSlot r) := by
  have hplace : s.Moves (s.setSeq { s.seq with slot := some r }) := Part.Moves.of_core (Part.setSeq_core rfl)
  unfold Part.offerSlot
  dsimp only
  split
  · exact hplace
  · split
    · exact hplace
    · exact s.dropRequest_moves _
    · exact hplace.trans (Part.overrunRequest_moves _ _)

theorem Part.rampInPattern_seq (s : Part) (level : Nat) : (s.rampInPattern level).seq = s.seq := by
  unfold Part.rampInPattern Part.testRamp
  split <;> rfl

theorem Part.degrade_moves (s : Part) : s.Moves s.degrade := by
  have hseq : ∀ x : Sequencer, x.mode = s.seq.mode → s.Moves (s.setSeq x) := fun x h =>
    Part.Moves.of_core (Part.setSeq_core (by rw [h]))
  unfold Part.degrade
  split
  next hm _ =>
    have hshape : s.seq.mode.shape = .inPattern := by rw [hm]; rfl
    have hsub := hseq { s.seq with sub := .degraded, restore := 0 } rfl
    dsimp only
    split
    · exact hsub.trans (Part.rampInPattern_moves _ hshape)
    · exact hsub
  next => exact hseq _ rfl
  all_goals exact Part.Moves.refl s

theorem Part.degrade_mode (s : Part) : s.degrade.seq.mode = s.seq.mode := by
  unfold Part.degrade
  split
  · dsimp only
    split
    · rw [Part.rampInPattern_seq]
      rfl
    · rfl
  all_goals rfl

theorem Part.raise_if_moves (s : Part) (b : Bool) (k : FaultKind) (o : FaultObject) (cls : FaultClass) :
    s.Moves (if b then s.raise k o cls else s) := by
  split
  · exact s.raise_moves k o cls
  · exact Part.Moves.refl s

theorem Part.raise_unless_moves (s : Part) (b : Bool) (k : FaultKind) (o : FaultObject) (cls : FaultClass) :
    s.Moves (if b then s else s.raise k o cls) := by
  split
  · exact Part.Moves.refl s
  · exact s.raise_moves k o cls

theorem Part.raiseInPattern_moves (s : Part) : s.Moves s.raiseInPattern :=
  (((Part.raiseEach_moves _ _ _ s).trans (Part.raiseEach_moves _ _ _ _)).trans (Part.raise_if_moves _ _ _ _ _)).trans
    (Part.raise_unless_moves _ _ _ _ _)

theorem Part.raiseInPattern_seq (s : Part) : s.raiseInPattern.seq = s.seq := by
  unfold Part.raiseInPattern
  dsimp only
  split <;> split <;> simp only [Part.raise_seq, Part.raiseEach_seq]

theorem Part.settleInPattern_moves {s : Part} (h : s.seq.mode = .inPattern) : s.Moves s.settleInPattern := by
  have hforget : s.Moves (s.setRaised []) := Part.Moves.of_move (.forget s.core) rfl
  have hraise := hforget.trans (Part.raiseInPattern_moves _)
  have howe : ∀ t : Part, t.seq.mode = .inPattern → t.Moves (t.setRaised s.raised) := fun t ht =>
    Part.Moves.of_move (.owe t.core s.raised (by simp [ht, Mode.shape])) rfl
  have hmode : (s.setRaised []).raiseInPattern.seq.mode = .inPattern := by
    rw [Part.raiseInPattern_seq]
    exact h
  unfold Part.settleInPattern
  dsimp only
  split
  · exact hraise.trans (howe _ hmode)
  · exact (hraise.trans (Part.degrade_moves _)).trans (howe _ ((Part.degrade_mode _).trans hmode))

/-! ### The phases -/

/-- The change record rewritten, to a phase. -/
theorem Part.modifyChange_phase {s : Part} {ph ph' : Phase} {k : ChangeKind} {f : Change → Change}
    (h : s.seq.mode.shape = .changing ph k) (hp : ∀ c, (f c).phase = ph') (hk : ∀ c, (f c).kind = c.kind) :
    (s.modifyChange f).core = { s.core with shape := .changing ph' k } := by
  cases hm : s.seq.mode with
  | changing c =>
    rw [Part.modifyChange_core_eq hm, hp, hk]
    rw [hm, Mode.shape, Shape.changing.injEq] at h
    rw [h.2]
  | _ => simp [hm, Mode.shape] at h

theorem Part.setPhase_core {s : Part} {ph : Phase} {k : ChangeKind} (h : s.seq.mode.shape = .changing ph k)
    (ph' : Phase) : (s.setPhase ph').core = { s.core with shape := .changing ph' k } :=
  Part.modifyChange_phase h (fun _ => rfl) fun _ => rfl

/-- The shape that a core shows. -/
theorem Part.shape_of_core {s : Part} {c : Core} (h : s.core = c) : s.seq.mode.shape = c.shape := by
  rw [← h, Part.core_shape]

/-- A phase with the carrier up is followed by another. -/
theorem Part.modifyChange_carrier {s : Part} {ph ph' : Phase} {k : ChangeKind} {f : Change → Change}
    (h : s.seq.mode.shape = .changing ph k) (hup : ph.carrierUp = true) (hp : ∀ c, (f c).phase = ph')
    (hk : ∀ c, (f c).kind = c.kind) (hup' : ph'.carrierUp = true) : s.Moves (s.modifyChange f) :=
  Part.Moves.of_move (.carrier s.core (by simpa only [Part.core_shape] using h) hup hup')
    (Part.modifyChange_phase h hp hk)

theorem Part.endEventRecords_if_moves (s : Part) (b : Bool) : s.Moves (if b then s.endEventRecords else s) := by
  split
  · exact Part.Moves.of_outline s.endEventRecords_outline
  · exact Part.Moves.refl s

theorem Part.enterStopped_moves {next : Part → Part} (hn : ∀ s : Part, s.Moves (next s)) (s : Part) :
    s.Moves (s.enterStopped next) := by
  obtain ⟨r, p, hr, hp, e⟩ := s.forceZero_core
  have hstop : s.Moves (s.forceZero.setSeq { s.forceZero.seq with mode := .stopped, active := none }) :=
    Part.Moves.of_move (.stop s.core hr hp) (by rw [Part.setSeq_core_eq, e]; rfl)
  unfold Part.enterStopped
  exact ((hstop.trans (Part.Moves.of_outline (Part.restartIdle_outline _))).trans
    (Part.endEventRecords_if_moves _ _)).trans (hn _)

theorem Part.endRecords_mode (s : Part) (p : FaultRecord → Bool) : (s.endRecords p).seq.mode = s.seq.mode := by
  unfold Part.endRecords
  dsimp only
  split <;> rfl

theorem Part.enterInPattern_moves {next : Part → Part} (hn : ∀ s : Part, s.Moves (next s)) (p : Pat) {s : Part}
    {k : ChangeKind} (h : s.seq.mode.shape = .changing .rampFinal k) : s.Moves (s.enterInPattern next p) := by
  have harrive : s.Moves (s.setSeq
      { s.seq with
        mode := .inPattern, sub := .normal, active := some p, ootRun := 0, ootRaised := false, restore := 0 }) :=
    Part.Moves.of_move (.arrive s.core (by simpa only [Part.core_shape] using h)) (Part.setSeq_core_eq _ _)
  unfold Part.enterInPattern
  refine ((harrive.trans (Part.Moves.of_outline (Part.endEventRecords_outline _))).trans
    (Part.settleInPattern_moves ?_)).trans (hn _)
  exact Part.endRecords_mode _ _

theorem Part.enterTrimming_moves (p : Pat) {s : Part} {ph : Phase} {k : ChangeKind}
    (h : s.seq.mode.shape = .changing ph k) (hup : ph.carrierUp = true) : s.Moves (s.enterTrimming p) := by
  unfold Part.enterTrimming
  have hphase : s.Moves (s.setPhase .trimming) :=
    Part.modifyChange_carrier h hup (fun _ => rfl) (fun _ => rfl) rfl
  exact (hphase.trans (Part.Moves.of_outline (Part.restartPattern_outline _ p))).trans
    (Part.Moves.of_core (Part.modifyChange_core (fun _ => rfl) fun _ => rfl))

theorem Part.releaseInhibit_core (s : Part) :
    s.releaseInhibit.core = { s.core with ramp := { s.ramp with inhibit := false } } := rfl

/-- RAMP_TO_TRIM is entered and INHIBIT released. -/
theorem Part.releaseInhibit_moves {s t : Part} {ph : Phase} {k : ChangeKind} (h : s.seq.mode.shape = .changing ph k)
    (ht : t.core = { s.core with shape := .changing .rampToTrim k }) : s.Moves t.releaseInhibit := by
  have hr : t.ramp = s.ramp := congrArg Core.ramp ht
  refine Part.Moves.of_move (.release s.core (by simpa only [Part.core_shape] using h)) ?_
  rw [Part.releaseInhibit_core, ht, hr]
  rfl

/-- A raise of TX_TRIP just before INHIBIT is released, which does not look at it. -/
theorem Part.raiseTrip_releaseInhibit (s : Part) : s.raiseTrip.releaseInhibit = s.releaseInhibit.raiseTrip := rfl

/-- R83: the ramp of RAMP_TO_TRIM, with INHIBIT released. -/
theorem Part.rampToTrim_moves (p : Pat) (level : Nat) {s : Part} {k : ChangeKind}
    (h : s.seq.mode.shape = .changing .rampToTrim k) :
    s.Moves (if (s.orderRamp level).ramp.reached
      then ((s.orderRamp level).setRamp (s.orderRamp level).ramp.finish).enterTrimming p
      else s.orderRamp level) := by
  have horder := Part.orderRamp_moves level (s := s) (.inl (by rw [h]; rfl))
  split
  · exact (horder.trans (Part.finish_moves _)).trans (Part.enterTrimming_moves p (ph := .rampToTrim) h rfl)
  · exact horder

theorem Part.enterRampToTrim_moves (p : Pat) {s : Part} {ph : Phase} {k : ChangeKind}
    (h : s.seq.mode.shape = .changing ph k) : s.Moves (s.enterRampToTrim p) := by
  have hphase := Part.setPhase_core h .rampToTrim
  have hshape := Part.shape_of_core hphase
  have hrelease := fun x : TrimEngine => Part.releaseInhibit_moves h (t := (s.setPhase .rampToTrim).setTrim x) hphase
  unfold Part.enterRampToTrim
  dsimp only
  split
  · rw [Part.raiseTrip_releaseInhibit]
    exact ((hrelease _).trans (Part.raiseTrip_moves _)).trans (Part.rampToTrim_moves p _ hshape)
  · exact (hrelease _).trans (Part.rampToTrim_moves p _ hshape)

theorem Part.endPresetting_moves (p : Pat) {s : Part} {ph : Phase} {k : ChangeKind}
    (h : s.seq.mode.shape = .changing ph k) : s.Moves (s.endPresetting p) := by
  unfold Part.endPresetting
  split
  · exact Part.Moves.refl s
  · exact Part.enterRampToTrim_moves p h

theorem Part.clampLicence_shape (s : Part) : s.clampLicence.seq.mode.shape = s.seq.mode.shape := by
  obtain ⟨r, p, -, -, -, e⟩ := s.clampLicence_core
  rw [Part.shape_of_core e]
  exact s.core_shape

theorem Part.shape_of_outline {s t : Part} (h : t.outline = s.outline) : t.seq.mode.shape = s.seq.mode.shape :=
  (Part.shape_of_core (Part.core_of_outline h)).trans s.core_shape

theorem Part.enterPresetting_moves (p : Pat) {s : Part} {ph : Phase} {k : ChangeKind}
    (h : s.seq.mode.shape = .changing ph k) : s.Moves (s.enterPresetting p) := by
  have hphase := Part.setPhase_core h .presetting
  have hpreset : s.Moves (s.setPhase .presetting) :=
    Part.Moves.of_move (.preset s.core (by simpa only [Part.core_shape] using h)) hphase
  have hrestart := Part.restartPattern_outline (s.setPhase .presetting) p
  have hclamp := Part.clampLicence_shape ((s.setPhase .presetting).restartPattern p)
  have hall := Part.presetAll_sends ((s.setPhase .presetting).restartPattern p).clampLicence p
  unfold Part.enterPresetting
  refine (((hpreset.trans (Part.Moves.of_outline hrestart)).trans (Part.clampLicence_moves _)).trans
    hall.moves).trans (Part.endPresetting_moves p (ph := .presetting) (k := k) ?_)
  rw [hall.shape, hclamp, Part.shape_of_outline hrestart, Part.shape_of_core hphase]

theorem Part.verifySet_moves (p : Pat) {s : Part} {ph : Phase} {k : ChangeKind}
    (h : s.seq.mode.shape = .changing ph k) : s.Moves (s.verifySet p) := by
  have hidle : (s.idleWalk.setPhaseDeadline none).outline = s.outline := by simp
  unfold Part.verifySet
  dsimp only
  split
  · exact (Part.Moves.of_outline hidle).trans
      (Part.enterPresetting_moves p ((Part.shape_of_outline hidle).trans h))
  · exact Part.raiseEach_moves _ _ _ s

theorem Part.walkOn_moves (p : Pat) (n : Nat) {s : Part} {ph : Phase} {k : ChangeKind}
    (h : s.seq.mode.shape = .changing ph k) : s.Moves (s.walkOn p n) := by
  have hwalk := Part.walkFrom_sends ((groupsOf (s.bank.switchList p)).drop n) n s
  unfold Part.walkOn
  dsimp only
  split
  · exact hwalk.moves.trans (Part.verifySet_moves p (hwalk.shape.trans h))
  · exact hwalk.moves

theorem Part.enterSwitching_moves (p : Pat) {s : Part} {k : ChangeKind}
    (h : s.seq.mode.shape = .changing .muting k) : s.Moves (s.enterSwitching p) := by
  have hphase := Part.setPhase_core h .switching
  have hswitch : s.Moves (s.setPhase .switching) :=
    Part.Moves.of_move (.switch s.core (by simpa only [Part.core_shape] using h)) hphase
  have hdeadline := Part.setPhaseDeadline_outline (s.setPhase .switching) none
  unfold Part.enterSwitching
  exact (hswitch.trans (Part.Moves.of_outline hdeadline)).trans
    (Part.walkOn_moves p _ ((Part.shape_of_outline hdeadline).trans (Part.shape_of_core hphase)))

theorem Part.enterMuting_moves (p : Pat) {s : Part} {ph : Phase} {k : ChangeKind}
    (h : s.seq.mode.shape = .changing ph k) (hb : k = .revert → ph = .rampDown ∨ s.core.NoneTurning) :
    s.Moves (s.enterMuting p) := by
  obtain ⟨r, q, hr, hq, e⟩ := (s.setPhase .muting).forceZero_core
  rw [Part.setPhase_core h] at e
  have hmute : s.Moves (s.setPhase .muting).forceZero :=
    Part.Moves.of_move (.mute s.core (by simpa only [Part.core_shape] using h) hb hr hq) e
  have hd := Part.setPhaseDeadline_outline (s.setPhase .muting).forceZero
    (some (after (s.setPhase .muting).forceZero.uptime (s.setPhase .muting).forceZero.bank.muteTimeout))
  have hmuting := hmute.trans (Part.Moves.of_outline hd)
  unfold Part.enterMuting
  dsimp only
  split
  · exact hmuting.trans (Part.enterSwitching_moves p ((Part.shape_of_outline hd).trans (Part.shape_of_core e)))
  · exact hmuting

theorem Part.change?_eq {s : Part} {c : Change} (h : s.change? = some c) : s.seq.mode = .changing c := by
  unfold Part.change? at h
  split at h
  next hm =>
    rw [hm]
    simpa using h
  next => simp at h

theorem Part.rampCompleted_moves {next : Part → Part} (hn : ∀ s : Part, s.Moves (next s)) (s : Part) :
    s.Moves (s.rampCompleted next) := by
  unfold Part.rampCompleted
  split
  next => exact Part.Moves.refl s
  next c hc =>
    have hs : s.seq.mode.shape = .changing c.phase c.kind := by rw [Part.change?_eq hc]; rfl
    split
    next => exact Part.enterStopped_moves hn s
    next p hph _ => exact Part.enterMuting_moves p hs fun _ => .inl hph
    next p hph _ => exact Part.enterTrimming_moves p hs (by rw [hph]; rfl)
    next p hph _ => exact Part.enterInPattern_moves hn p (by rw [hs, hph])
    next => exact Part.Moves.refl s

theorem Part.settleRamp_moves {next : Part → Part} (hn : ∀ s : Part, s.Moves (next s)) (s : Part) :
    s.Moves (s.settleRamp next) := by
  unfold Part.settleRamp
  split
  · exact s.finish_moves.trans (Part.rampCompleted_moves hn _)
  · exact Part.Moves.refl s

theorem Part.enterRampFinal_moves {next : Part → Part} (hn : ∀ s : Part, s.Moves (next s)) (p : Pat) {s : Part}
    {ph : Phase} {k : ChangeKind} (h : s.seq.mode.shape = .changing ph k) (hup : ph.carrierUp = true) :
    s.Moves (s.enterRampFinal next p) := by
  have hphase := Part.modifyChange_phase (f := fun c => { c with phase := .rampFinal, settleDeadline := none }) h
    (fun _ => rfl) fun _ => rfl
  have hfinal : s.Moves (s.modifyChange fun c => { c with phase := .rampFinal, settleDeadline := none }) :=
    Part.modifyChange_carrier h hup (fun _ => rfl) (fun _ => rfl) rfl
  unfold Part.enterRampFinal
  exact (hfinal.trans (Part.orderRamp_moves _ (.inl (by rw [Part.shape_of_core hphase]; rfl)))).trans
    (Part.settleRamp_moves hn _)

theorem Part.enterRampDown_moves {next : Part → Part} (hn : ∀ s : Part, s.Moves (next s)) {s : Part} {ph : Phase}
    {k : ChangeKind} (h : s.seq.mode.shape = .changing ph k) (hpos : 0 < s.ramp.level)
    (hb : k = .revert → s.core.NoneTurning) : s.Moves (s.enterRampDown next) := by
  obtain ⟨r, p, hi, -, hp, e⟩ := (s.setPhase .rampDown).clampLicence_core
  obtain ⟨r', hi', hl', e'⟩ := (s.setPhase .rampDown).clampLicence.orderRamp_core 0
  have hphase := Part.setPhase_core h .rampDown
  have hramp : (s.setPhase .rampDown).clampLicence.ramp = r := congrArg Core.ramp e
  have hramp0 : (s.setPhase .rampDown).ramp = s.ramp := congrArg Core.ramp hphase
  have hpower0 : (s.setPhase .rampDown).station.power = s.station.power := congrArg Core.power hphase
  rw [hramp] at hi' hl'
  rw [hramp0] at hi hp
  rw [hpower0] at hp
  have hdescend : s.Moves ((s.setPhase .rampDown).clampLicence.orderRamp 0) :=
    Part.Moves.of_move
      (.descend s.core (r := r') (p := p) (by simpa only [Part.core_shape] using h) hpos hb (hi'.trans hi)
        (by rw [hl']; exact hp))
      (by rw [e', e, hphase])
  exact hdescend.trans (Part.settleRamp_moves hn _)

theorem Part.enterPhases_moves {next : Part → Part} (hn : ∀ s : Part, s.Moves (next s)) {s : Part}
    (hb : ∀ ph, s.seq.mode.shape = .changing ph .revert → s.core.NoneTurning) : s.Moves (s.enterPhases next) := by
  unfold Part.enterPhases
  split
  next => exact Part.Moves.refl s
  next c hc =>
    have hs : s.seq.mode.shape = .changing c.phase c.kind := by rw [Part.change?_eq hc]; rfl
    have hb' : c.kind = .revert → s.core.NoneTurning := fun hk => hb c.phase (by rw [hs, hk])
    split
    next =>
      split
      next hpos => exact Part.enterRampDown_moves hn hs hpos hb'
      next => exact Part.enterStopped_moves hn s
    next p _ =>
      split
      next =>
        split
        next hpos => exact Part.enterRampDown_moves hn hs hpos hb'
        next => exact Part.enterMuting_moves p hs fun hk => .inr (hb' hk)
      next => exact Part.enterPresetting_moves p hs

end Sys2Proof.Machine
end

section
/-! SUPPORT. Promotion, acceptance and the class reactions, as moves of the core. -/

namespace Sys2Proof.Machine

/-! ### Promotion -/

theorem Part.core_foldl {α : Type} {f : Part → α → Part} (h : ∀ (s : Part) (a : α), (f s a).core = s.core)
    (l : List α) : ∀ s : Part, (l.foldl f s).core = s.core := by
  induction l with
  | nil => exact fun _ => rfl
  | cons a l ih => exact fun s => (ih _).trans (h s a)

@[simp] theorem Part.setRound_core (s : Part) (x : VerdictUnit) : (s.setRound x).core = s.core := rfl

@[simp] theorem Part.endCondition_core (s : Part) (k : FaultKind) (o : FaultObject) :
    (s.endCondition k o).core = s.core := Part.core_of_outline (s.endCondition_outline k o)

@[simp] theorem Part.disown_core (s : Part) (e : Elem) : (s.disown e).core = s.core := rfl

theorem Part.resetElement_core (s : Part) (e : Elem) : (s.resetElement e).core = s.core := by
  unfold Part.resetElement
  dsimp only
  split <;> simp only [Part.endCondition_core, Part.setTrim_core, Part.disown_core, Part.modifyElem_core,
    Part.setRound_core]

/-- What raises of one class leave. -/
theorem Part.raiseEach_core (k : FaultKind) (cls : FaultClass) (os : List FaultObject) : ∀ s : Part,
    ∃ l : List Raised, (∀ r ∈ l, r.cls = cls) ∧
      (s.raiseEach k cls os).core = { s.core with raised := s.raised ++ l } := by
  induction os with
  | nil => exact fun s => ⟨[], by simp, by rw [List.append_nil]; rfl⟩
  | cons o os ih =>
    intro s
    obtain ⟨l, hl, e⟩ := ih (s.raise k o cls)
    refine ⟨{ cls := cls, kind := k, situation := s.situation, pats := s.changePats } :: l, ?_, ?_⟩
    · simpa [List.mem_cons, forall_eq_or_imp] using hl
    · show ((s.raise k o cls).raiseEach k cls os).core = _
      rw [e, List.append_cons]
      rfl

theorem Part.setTable_core_eq (s : Part) (x : ReadingTable) :
    (s.setTable x).core = { s.core with quiet := x.quiet, quietRuns := x.quietRuns } := rfl

/-- R10, R34, R36: what a change of the installed towers leaves of the core. -/
theorem Part.retower_core (s : Part) : ∃ l : List Raised, (∀ r ∈ l, r.cls = .a) ∧
    s.retower.core =
      { s.core with
        quietRuns := Vector.replicate 12 0
        quiet := quietUnder s.tables.mem (Vector.replicate 12 0)
        raised := s.raised ++ l } := by
  unfold Part.retower
  dsimp only
  generalize hx : (s.setTable { s.table with quietRuns := Vector.replicate 12 0 }).setStore _ = x
  have hxc : x.core = { s.core with quietRuns := Vector.replicate 12 0 } := by rw [← hx]; rfl
  have hr := (Part.core_of_outline x.restartIdle_outline).trans hxc
  have htables : x.restartIdle.tables = s.tables := congrArg Core.tables hr
  have hruns : x.restartIdle.table.quietRuns = Vector.replicate 12 0 := congrArg Core.quietRuns hr
  have hraised : x.restartIdle.raised = s.raised := congrArg Core.raised hr
  have hset : (x.restartIdle.setTable { x.restartIdle.table with quiet := x.restartIdle.quietNow }).core =
      { s.core with
        quietRuns := Vector.replicate 12 0, quiet := quietUnder s.tables.mem (Vector.replicate 12 0) } := by
    rw [Part.setTable_core_eq, hr, Part.quietNow_eq, htables, hruns]
  split
  · obtain ⟨l, hl, e⟩ := Part.raiseEach_core .rfInSwitch .a _
      (x.restartIdle.setTable { x.restartIdle.table with quiet := x.restartIdle.quietNow })
    refine ⟨l, hl, ?_⟩
    rw [Part.raiseRfInSwitch, e, hset, Part.setTable_raised, hraised]
  · refine ⟨[], by simp, ?_⟩
    rw [hset, List.append_nil]
    rfl

theorem towersChanged_count {old new : Bank} (h : towersChanged old new = false) :
    new.towerCount = old.towerCount := by
  simp only [towersChanged, Bool.or_eq_false_iff, decide_eq_false_iff_not, ne_eq, not_not] at h
  exact h.1.symm

theorem Part.setTables_core_eq (s : Part) (x : Tables) : (s.setTables x).core = { s.core with tables := x } := rfl

theorem Part.setSched_core_eq (s : Part) (x : Scheduler) :
    (s.setSched x).core = { s.core with evalDue := x.evalDue } := rfl

theorem Part.promote_moves {s : Part} (h : s.tables.staged = .ready) : s.Moves s.promote := by
  unfold Part.promote
  dsimp only
  generalize hx : (elements.filter _).foldl Part.resetElement _ = x
  have hxc : x.core = { s.core with tables := { s.tables with mem := s.tables.mem.promote, staged := .clean } } := by
    rw [← hx, Part.core_foldl Part.resetElement_core, Part.setTables_core_eq]
  have htables : x.tables = { s.tables with mem := s.tables.mem.promote, staged := .clean } :=
    congrArg Core.tables hxc
  have hraised : x.raised = s.raised := congrArg Core.raised hxc
  -- the schedule enable alone remains
  have hdue : ∀ (y : Part) (q : Bool) (runs : Vector Nat 12) (l : List Raised), (∀ r ∈ l, r.cls = .a) →
      (q = quietUnder s.tables.mem.promote runs ∨ (runs = s.table.quietRuns ∧ q = s.table.quiet ∧
        (activeBank s.tables.mem.promote).towerCount = s.bank.towerCount)) →
      y.core = { s.core with
        tables := { s.tables with mem := s.tables.mem.promote, staged := .clean }
        quietRuns := runs, quiet := q, raised := s.raised ++ l } →
      s.Moves (if s.bank.scheduleEnable = y.bank.scheduleEnable then y
        else y.setSched { y.sched with evalDue := true }) := by
    intro y q runs l hl hq hy
    split
    · exact Part.Moves.of_move (.promote s.core s.sched.evalDue h hq hl) hy
    · exact Part.Moves.of_move (.promote s.core true h hq hl) (by rw [Part.setSched_core_eq, hy]; rfl)
  split
  · obtain ⟨l, hl, e⟩ := x.retower_core
    refine hdue _ _ (Vector.replicate 12 0) l hl (.inl rfl) ?_
    rw [e, hxc, htables, hraised]
  · next hsame =>
    refine hdue _ s.table.quiet s.table.quietRuns [] (by simp) (.inr ⟨rfl, rfl, ?_⟩) ?_
    · have hcount := towersChanged_count (by simpa using hsame : towersChanged s.bank x.bank = false)
      rwa [Part.bank, htables] at hcount
    · rw [hxc, List.append_nil]
      rfl

/-! ### Acceptance -/

theorem Part.accept_moves (s : Part) (src : Source) (target : Option Nat) : s.Moves (s.accept src target).part := by
  unfold Part.accept
  split
  · exact Part.Moves.refl s
  · split
    · exact Part.Moves.refl s
    · dsimp only
      split
      next h =>
        refine Part.promote_moves ?_
        simp only [Part.promotes, Bool.and_eq_true, beq_iff_eq] at h
        exact h.1
      next => exact Part.Moves.refl s

@[simp] theorem Part.refillTrim_core (s : Part) : s.refillTrim.core = s.core := by
  simp only [Part.refillTrim, Part.setTrim_core, Part.setElems_core]

theorem Part.setMode_core (s : Part) (m : Mode) : (s.setMode m).core = { s.core with shape := m.shape } :=
  Part.setSeq_core_eq _ _

/-- Every move that leads to the shape of a change just started. -/
theorem Part.startFrom_moves {next : Part → Part} (hn : ∀ s : Part, s.Moves (next s)) {s t : Part} {k : ChangeKind}
    (ht : t.core = { s.core with shape := .changing .rampDown k }) (hk : k ≠ .revert) :
    s.Moves (t.endRamp.enterPhases next) := by
  have hstart : s.Moves t := Part.Moves.of_move (.start s.core hk) ht
  refine (hstart.trans t.endRamp_moves).trans (Part.enterPhases_moves hn fun ph hph => ?_)
  have hshape : t.endRamp.seq.mode.shape = .changing .rampDown k := Part.shape_of_core ht
  rw [hshape, Shape.changing.injEq] at hph
  exact absurd hph.2 hk

/-- R70: the out-of-tolerance run ends as the sequencer leaves IN_PATTERN. -/
theorem Part.leavePattern_core (s : Part) :
    (if s.isInPattern then
      (s.endCondition .outOfTolerance .nothing).setSeq
        { (s.endCondition .outOfTolerance .nothing).seq with ootRun := 0, ootRaised := false }
    else s).core = s.core := by
  split
  · exact (Part.setSeq_core rfl).trans (s.endCondition_core _ _)
  · rfl

theorem Part.startChange_moves {next : Part → Part} (hn : ∀ s : Part, s.Moves (next s)) (s : Part) (src : Source)
    (target : Option Pat) (adopted : Bool) : s.Moves (s.startChange next src target adopted) := by
  unfold Part.startChange
  dsimp only
  have hkind : (if target = s.seq.active then ChangeKind.reseat else .normal) ≠ .revert := by
    split <;> simp
  refine Part.startFrom_moves hn ?_ hkind
  rw [Part.setTrim_core, Part.refillTrim_core, Part.setMode_core, Part.leavePattern_core]
  rfl

theorem Part.takeSlot_moves (n : Nat) : ∀ s : Part, s.Moves (Part.takeSlot n s) := by
  induction n with
  | zero => exact Part.Moves.refl
  | succ n ih =>
    intro s
    rw [Part.takeSlot]
    split
    next => exact Part.Moves.refl s
    next r _ =>
      have hslot : s.Moves (s.setSeq { s.seq with slot := none }) := Part.Moves.of_core (Part.setSeq_core rfl)
      have haccept := hslot.trans (Part.accept_moves _ r.source (r.target.map Fin.val))
      dsimp only
      split
      · exact haccept.trans (Part.startChange_moves ih _ _ _ _)
      · exact haccept.trans (Part.dropRequest_moves _ _)

theorem Part.slotTaken_moves (s : Part) : s.Moves s.slotTaken := Part.takeSlot_moves 2 s

theorem Part.startNow_moves (s : Part) (src : Source) (target : Option Nat) :
    s.Moves (s.startNow src target).part := by
  unfold Part.startNow
  dsimp only
  split
  · exact (s.accept_moves _ _).trans (Part.startChange_moves Part.slotTaken_moves _ _ _ _)
  · exact s.accept_moves _ _

theorem Part.raiseRequest_moves (s : Part) (src : Source) (target : Option Pat) :
    s.Moves (s.raiseRequest src target) := by
  unfold Part.raiseRequest
  split
  · exact s.offerSlot_moves _
  · dsimp only
    split
    · exact s.startNow_moves _ _
    · exact (s.startNow_moves _ _).trans (Part.dropRequest_moves _ _)

/-! ### Reactions -/

theorem Part.halt_moves (s : Part) : s.Moves s.halt := by
  have hempty := s.emptySlot_moves.trans
    (Part.Moves.of_core (s.emptySlot.endCondition_core .outOfTolerance .nothing))
  obtain ⟨r, p, hr, hp, e⟩ := (s.emptySlot.endCondition .outOfTolerance .nothing).forceZero_core
  unfold Part.halt
  split
  · exact Part.Moves.refl s
  · refine hempty.trans (Part.Moves.of_move (.halt _ hr hp) ?_)
    dsimp only
    rw [Part.setSeq_core_eq, Part.core_of_outline (Part.stopEngines_outline _), e]
    rfl

theorem Part.revert_moves (cause : Cause) {s : Part} {c : Change} (hc : s.seq.mode = .changing c)
    (hb : s.core.NoneTurning) : s.Moves (s.revert cause) := by
  have hturn := Part.modifyChange_core_eq hc fun c => c.reverted s.bank cause
  have hs : s.core.shape = .changing c.phase c.kind := by rw [Part.core_shape, hc]; rfl
  obtain ⟨l, hl, e⟩ := (s.modifyChange fun c => c.reverted s.bank cause).emptySlot_core
  unfold Part.revert
  dsimp only
  generalize hx : (s.modifyChange fun c => c.reverted s.bank cause).emptySlot.stopEngines.refillTrim = x
  have hxc : x.core = { s.core with shape := .changing c.phase .revert, raised := s.raised ++ l } := by
    rw [← hx, Part.refillTrim_core, Part.core_of_outline (Part.stopEngines_outline _), e, hturn]
    rw [show (s.modifyChange fun c => c.reverted s.bank cause).raised = s.raised from congrArg Core.raised hturn]
    rfl
  have hmoves : (x.modifyChange fun c => { c with moves := x.movesNeeded c.toPat }).core = x.core :=
    Part.modifyChange_core (fun _ => rfl) fun _ => rfl
  have hmove : s.Moves (s.modifyChange fun c => c.reverted s.bank cause) :=
    Part.Moves.of_move (.turn s.core hs hb) hturn
  have hstop : s.Moves x := by
    refine (hmove.trans (Part.emptySlot_moves _)).trans (Part.Moves.of_core ?_)
    rw [← hx, Part.refillTrim_core, Part.core_of_outline (Part.stopEngines_outline _)]
  refine ((hstop.trans (Part.Moves.of_core hmoves)).trans (Part.endRamp_moves _)).trans
    (Part.enterPhases_moves Part.slotTaken_moves fun _ _ r hr => ?_)
  have hraised : (x.modifyChange fun c => { c with moves := x.movesNeeded c.toPat }).endRamp.core.raised =
      s.raised ++ l := by
    show (x.modifyChange fun c => { c with moves := x.movesNeeded c.toPat }).core.raised = _
    rw [hmoves, hxc]
  rw [hraised] at hr
  rcases List.mem_append.mp hr with hr | hr
  · exact hb r hr
  · simp [hl r hr]

theorem Part.giveUp_moves {r : Raised} (p : Pat) {s : Part} {c : Change} (hc : s.seq.mode = .changing c)
    (hk : c.kind = .revert) (hr : r ∈ s.raised) (hb : r.cls = .b) (hup : r.situation.carrierUp = true) :
    s.Moves ((s.setRaised []).giveUp r p) := by
  have hs : s.core.shape = .changing c.phase .revert := by rw [Part.core_shape, hc, ← hk]; rfl
  unfold Part.giveUp
  dsimp only
  generalize hx : (s.setRaised []).setSeq _ = x
  have hgive : s.Moves x := Part.Moves.of_move (.giveUp s.core hs hr hb hup) (by rw [← hx, Part.setSeq_core_eq]; rfl)
  have hshape : x.seq.mode.shape = .inPattern := by rw [← hx]; rfl
  have hempty := (hgive.trans (Part.rampInPattern_moves (x.bank.degradedLevel p) hshape)).trans (Part.emptySlot_moves _)
  exact (hempty.trans (Part.Moves.of_move (.raise _ _ (by simp)) (Part.raiseUnder_core _ _ _ _ _ _))).trans
    (Part.raiseInPattern_moves _)

theorem Part.setRaised_moves (s : Part) : s.Moves (s.setRaised []) := Part.Moves.of_move (.forget s.core) rfl

theorem Part.turnBack_moves {s : Part} {r : Raised} (hr : r ∈ s.raised) (hb : r.cls = .b) :
    s.Moves ((s.setRaised []).turnBack r) := by
  unfold Part.turnBack
  split
  next => exact s.setRaised_moves
  next c hc =>
    have hm : s.seq.mode = .changing c := Part.change?_eq (s := s.setRaised []) hc
    have hrevert : s.Moves ((s.setRaised []).revert (.fault r.kind)) :=
      s.setRaised_moves.trans (Part.revert_moves _ hm fun x hx => by simp at hx)
    split
    next hk =>
      unfold Part.secondFailure
      split
      · exact s.setRaised_moves.trans (Part.halt_moves _)
      · split
        next hup => exact Part.giveUp_moves _ hm hk hr hb hup
        next => exact s.setRaised_moves.trans (Part.halt_moves _)
    next => exact hrevert
    next => exact hrevert

theorem Part.reactOnce_moves (s : Part) : s.Moves s.reactOnce := by
  unfold Part.reactOnce
  dsimp only
  split
  next => exact s.setRaised_moves.trans (Part.halt_moves _)
  next r _ h =>
    exact Part.turnBack_moves (List.mem_of_find?_eq_some h) (by simpa using List.find?_some h)
  next => exact s.setRaised_moves.trans (Part.degrade_moves _)
  next => exact s.setRaised_moves

theorem Part.react_moves (n : Nat) : ∀ s : Part, s.Moves (Part.react n s) := by
  induction n with
  | zero => exact Part.setRaised_moves
  | succ n ih =>
    intro s
    rw [Part.react]
    split
    · exact Part.Moves.refl s
    · exact s.reactOnce_moves.trans (ih _)

theorem Part.settle_moves (s : Part) : s.Moves s.settle := Part.react_moves 4 s

/-- What an event owes at its end, and the lines it leaves. -/
theorem Part.settle_drivePins_moves (s : Part) : s.Moves s.settle.drivePins :=
  s.settle_moves.trans (Part.Moves.of_core (Part.setPins_core _ _))

end Sys2Proof.Machine
end

section
/-! SUPPORT. The walk, QUIET, STATE entries, trim, verdicts, blocks and samples, as moves of the core. -/

namespace Sys2Proof.Machine

/-! ### The walk and QUIET -/

theorem Part.changing_shape {s : Part} {c : Change} (h : s.change? = some c) :
    s.seq.mode.shape = .changing c.phase c.kind := by
  rw [Part.change?_eq h]
  rfl

theorem Part.groupTest_moves (p : Pat) (c : Change) {s : Part} {ph : Phase} {k : ChangeKind}
    (h : s.seq.mode.shape = .changing ph k) : s.Moves (s.groupTest p c) := by
  unfold Part.groupTest
  dsimp only
  split
  · split
    · exact (Part.setWalk_sends s _).moves.trans (Part.walkOn_moves p _ h)
    · exact (Part.setWalk_sends s _).moves
  · exact Part.Moves.refl s

theorem Part.settleEarliest_sends (e : Elem) (l : List SwitchStep) : ∀ (os : List StepStatus) (s : Part),
    s.Sends (Part.settleEarliest e l os s).2 := by
  induction l with
  | nil => exact fun os s => Part.Sends.refl s
  | cons x xs ih =>
    intro os s
    cases os with
    | nil => exact Part.Sends.refl s
    | cons o os =>
      rw [Part.settleEarliest]
      split
      · split
        · exact s.settleStep_sends x
        · exact Part.Sends.refl s
      · exact ih os s

theorem Part.walkHears_moves (e : Elem) (failed : Bool) (s : Part) : s.Moves (s.walkHears e failed) := by
  unfold Part.walkHears
  split
  next c hc _ =>
    split
    next => exact Part.Moves.refl s
    next p _ =>
      dsimp only
      have hsettle := Part.settleEarliest_sends e (s.groupNow p c)
        (if failed then s.walk.steps else List.zipWith (completeStep e) (s.groupNow p c) s.walk.steps) s
      have hwalk := hsettle.trans (Part.setWalk_sends _ { (Part.settleEarliest e (s.groupNow p c)
        (if failed then s.walk.steps else List.zipWith (completeStep e) (s.groupNow p c) s.walk.steps) s).2.walk with
        steps := (Part.settleEarliest e (s.groupNow p c)
          (if failed then s.walk.steps else List.zipWith (completeStep e) (s.groupNow p c) s.walk.steps) s).1 })
      exact hwalk.moves.trans (Part.groupTest_moves p c (hwalk.shape.trans (Part.changing_shape hc)))
  next => exact Part.Moves.refl s

theorem Part.settleWaiting_sends (l : List SwitchStep) : ∀ (os : List StepStatus) (s : Part),
    s.Sends (Part.settleWaiting l os s).2 := by
  induction l with
  | nil => exact fun os s => Part.Sends.refl s
  | cons x xs ih =>
    intro os s
    cases os with
    | nil => exact Part.Sends.refl s
    | cons o os =>
      rw [Part.settleWaiting]
      split
      · exact (s.settleStep_sends x).trans (ih os _)
      · exact ih os s

theorem Part.dwellOver_moves (s : Part) : s.Moves s.dwellOver := by
  unfold Part.dwellOver
  split
  next => exact Part.Moves.refl s
  next c hc =>
    split
    next => exact Part.Moves.refl s
    next p _ => exact (Part.setWalk_sends s _).moves.trans (Part.walkOn_moves p _ (Part.changing_shape hc))

theorem Part.walkResumes_moves (p : Pat) (c : Change) {s : Part} {ph : Phase} {k : ChangeKind}
    (h : s.seq.mode.shape = .changing ph k) : s.Moves (s.walkResumes p c) := by
  unfold Part.walkResumes
  split
  · exact Part.walkOn_moves p _ h
  · have hwait := Part.settleWaiting_sends (s.groupNow p c) s.walk.steps s
    have hwalk := hwait.trans (Part.setWalk_sends _ { (Part.settleWaiting (s.groupNow p c) s.walk.steps s).2.walk with
      steps := (Part.settleWaiting (s.groupNow p c) s.walk.steps s).1 })
    exact hwalk.moves.trans (Part.groupTest_moves p c (hwalk.shape.trans h))
  all_goals exact Part.Moves.refl s

theorem Part.quietLost_moves (s : Part) : s.Moves s.quietLost := by
  unfold Part.quietLost
  split
  · split
    · exact Part.Moves.of_outline (s.setPhaseDeadline_outline _)
    · exact Part.Moves.refl s
  · exact Part.raiseEach_moves _ _ _ s

theorem Part.quietGained_moves (s : Part) : s.Moves s.quietGained := by
  unfold Part.quietGained
  split
  next => exact Part.Moves.refl s
  next c hc =>
    split
    next p _ hph => exact Part.enterSwitching_moves p (k := c.kind) (by rw [Part.changing_shape hc, hph])
    next p _ _ =>
      have hd := s.setPhaseDeadline_outline none
      exact (Part.Moves.of_outline hd).trans
        (Part.walkResumes_moves p c ((Part.shape_of_outline hd).trans (Part.changing_shape hc)))
    next => exact Part.Moves.refl s

/-- R36: the readings are replaced, quiet runs among them, and QUIET is evaluated. -/
theorem Part.setTable_evaluateQuiet_moves (s : Part) (x : ReadingTable) : s.Moves (s.setTable x).evaluateQuiet := by
  have hquiet : s.Moves ((s.setTable x).setTable { x with quiet := (s.setTable x).quietNow }) :=
    Part.Moves.of_move (.quiet s.core x.quietRuns) rfl
  unfold Part.evaluateQuiet
  dsimp only
  split
  · exact hquiet.trans (Part.quietLost_moves _)
  · split
    · exact hquiet.trans (Part.quietGained_moves _)
    · exact hquiet

/-! ### The end of a command, STATE entries and deadlines -/

theorem Part.trimHears_sends (e : Elem) (s : Part) : s.Sends (s.trimHears e) := by
  unfold Part.trimHears
  split
  · exact Part.Sends.refl s
  · split
    · split
      · exact s.presetAgain_sends _ e
      · exact Part.Sends.refl s
    · exact Part.Sends.refl s

@[simp] theorem Part.abandonRound_core (s : Part) : s.abandonRound.core = s.core := rfl

theorem Part.testPresets_moves (s : Part) : s.Moves s.testPresets := by
  unfold Part.testPresets
  split
  next => exact Part.Moves.refl s
  next c hc =>
    split
    next p _ _ => exact Part.endPresetting_moves p (Part.changing_shape hc)
    next => exact Part.Moves.refl s

theorem Part.dropCommand_core (s : Part) (e : Elem) (c : Command) (f : Option FaultKind) :
    (s.dropCommand e c f).core = s.core := rfl

theorem Part.endCommand_moves (s : Part) (e : Elem) (f : Option FaultKind) : s.Moves (s.endCommand e f) := by
  unfold Part.endCommand
  split
  next => exact Part.Moves.refl s
  next c _ =>
    have hdrop : s.Moves (s.dropCommand e c f) := Part.Moves.of_core (s.dropCommand_core e c f)
    have htold : s.Moves (if c.order.isContact then (s.dropCommand e c f).walkHears e f.isSome
        else ((s.dropCommand e c f).trimHears e).abandonRound.testPresets) := by
      split
      · exact hdrop.trans (Part.walkHears_moves e _ _)
      · exact ((hdrop.trans (Part.trimHears_sends e _).moves).trans
          (Part.Moves.of_core (Part.abandonRound_core _))).trans
          (Part.testPresets_moves _)
    dsimp only
    split
    · exact htold
    · exact htold.trans (Part.raise_moves _ _ _ _)

theorem Part.raiseDrift_moves (s : Part) (e : Elem) (q : Bool) : s.Moves (s.raiseDrift e q) := by
  unfold Part.raiseDrift
  split
  · exact s.raise_moves _ _ _
  · exact s.raise_moves _ _ _

theorem Part.modifyElem_if_moves (s : Part) (b : Bool) (e : Elem) (f : ElemRecord → ElemRecord) :
    s.Moves (if b then s.modifyElem e f else s) := by
  split
  · exact Part.Moves.of_core (s.modifyElem_core e f)
  · exact Part.Moves.refl s

theorem Part.applyContact_moves (s : Part) (e : Elem) (new : ContactState) : s.Moves (s.applyContact e new) := by
  have hreport : s.Moves ((s.modifyElem e fun r =>
      { r with contact := new, lastReport := some s.uptime }).endCondition .elementSilent (.element e)) :=
    Part.Moves.of_core (by rw [Part.endCondition_core, Part.modifyElem_core])
  have hdrift : ∀ (t : Part) (b q : Bool), t.Moves (if b then t.raiseDrift e q else t) := by
    intro t b q
    split
    · exact t.raiseDrift_moves e q
    · exact Part.Moves.refl t
  unfold Part.applyContact
  dsimp only
  refine Part.Moves.trans ?_ (hdrift _ _ _)
  refine Part.Moves.trans ?_ (Part.modifyElem_if_moves _ _ _ _)
  split
  · split
    · exact hreport.trans (Part.raise_moves _ _ _ _)
    · exact hreport
  · split
    · exact hreport.trans (Part.endCommand_moves _ _ _)
    · split
      · exact hreport.trans (Part.endCommand_moves _ _ _)
      · exact hreport

theorem Part.applyMotion_moves (s : Part) (e : Elem) (new : Motion) (pos : Nat) :
    s.Moves (s.applyMotion e new pos) := by
  have hreport : s.Moves ((s.modifyElem e fun r =>
      { r with motion := new, position := some pos, lastReport := some s.uptime }).endCondition
      .elementSilent (.element e)) :=
    Part.Moves.of_core (by rw [Part.endCondition_core, Part.modifyElem_core])
  unfold Part.applyMotion
  dsimp only
  split
  · exact hreport
  · split
    · split
      · exact hreport.trans (Part.endCommand_moves _ _ _)
      · exact hreport
    · exact hreport.trans (Part.endCommand_moves _ _ _)
    · exact hreport

theorem Part.stateEntry_moves (s : Part) (node : Byte) (channel code pos : Nat) :
    s.Moves (s.stateEntry node channel code pos) := by
  unfold Part.stateEntry
  split
  · exact Part.Moves.refl s
  · split
    · exact Part.Moves.refl s
    · split
      · exact (s.applyContact_moves _ _).trans (Part.settle_moves _)
      · exact Part.Moves.refl s
    · split
      · exact (s.applyMotion_moves _ _ _).trans (Part.settle_moves _)
      · exact Part.Moves.refl s

theorem Part.stateEntries_moves (node : Byte) (l : List Byte) (s : Part) : s.Moves (Part.stateEntries node l s) := by
  fun_induction Part.stateEntries node l s with
  | case1 ch code hi lo rest s ih => exact (s.stateEntry_moves _ _ _ _).trans ih
  | case2 l s => exact Part.Moves.refl s

theorem Part.fallSilent_moves (s : Part) (e : Elem) : s.Moves (s.fallSilent e) :=
  (Part.Moves.of_core (s.modifyElem_core e _)).trans (Part.raise_moves _ _ _ _)

theorem Part.commandExpires_moves (s : Part) (e : Elem) (c : Command) : s.Moves (s.commandExpires e c) := by
  unfold Part.commandExpires
  split
  · exact s.endCommand_moves _ _
  · split
    · exact (Part.Moves.of_core (s.modifyElem_core e _)).trans (Part.handCommand_sends _ _ _).moves
    · exact s.endCommand_moves _ _

/-! ### Trim -/

theorem Part.countSettle_core (s : Part) (e : Elem) : (s.countSettle e).core = s.core := by
  unfold Part.countSettle
  split <;> rfl

theorem Part.takeStep_moves (s : Part) (a : ActuatorEntry) (pos : Nat) (step : Int) :
    s.Moves (s.takeStep a pos step) := by
  have helem : ∀ (t : Part) (f : ElemRecord → ElemRecord), t.Moves (t.modifyElem a.elem f) := fun t f =>
    Part.Moves.of_core (t.modifyElem_core a.elem f)
  unfold Part.takeStep
  dsimp only
  split
  · exact (s.commandPart_sends _ _ _).moves.trans (helem _ _)
  · refine Part.Moves.trans ?_ (helem _ _)
    split
    · exact (s.raise_moves _ _ _).trans (Part.Moves.of_core (Part.setTrim_core _ _))
    · exact Part.Moves.refl s

theorem Part.trimEntry_moves (p : Pat) (a : ActuatorEntry) (s : Part) : s.Moves (Part.trimEntry p a s).2 := by
  have hcount : s.Moves (s.countSettle a.elem) := Part.Moves.of_core (s.countSettle_core a.elem)
  unfold Part.trimEntry
  dsimp only
  split
  · exact hcount
  · split
    · split
      · exact hcount
      · split
        · split
          · exact hcount
          · exact hcount.trans (Part.takeStep_moves _ _ _ _)
        · exact hcount
    · exact hcount

theorem Part.trimEntries_moves (p : Pat) (l : List ActuatorEntry) : ∀ (out : List Elem) (s : Part),
    s.Moves (Part.trimEntries p l out s).2 := by
  induction l with
  | nil => exact fun _ s => Part.Moves.refl s
  | cons a l ih => exact fun out s => (Part.trimEntry_moves p a s).trans (ih _ _)

theorem Part.exhaust_moves (s : Part) (es : List Elem) : s.Moves (s.exhaust es) := by
  unfold Part.exhaust
  refine Part.Moves.trans ?_ (Part.raiseEach_moves _ _ _ _)
  split
  · exact Part.Moves.of_core (s.setTrim_core _)
  · exact Part.Moves.refl s

theorem Part.trimClose_moves (s : Part) (t : Tower) : s.Moves (s.trimClose t) := by
  unfold Part.trimClose
  split
  · exact Part.Moves.refl s
  · exact (Part.trimEntries_moves _ _ _ s).trans (Part.exhaust_moves _ _)

/-! ### Verdicts and rounds -/

theorem Part.verifying_moves (p : Pat) (n : Nat) {s : Part} {ph : Phase} {k : ChangeKind}
    (h : s.seq.mode.shape = .changing ph k) (hup : ph.carrierUp = true) : s.Moves (s.verifying p n) := by
  have hphase := Part.modifyChange_phase (f := fun c => { c with phase := .verifying, verify := n }) h
    (fun _ => rfl) fun _ => rfl
  have hmove : s.Moves (s.modifyChange fun c => { c with phase := .verifying, verify := n }) :=
    Part.modifyChange_carrier h hup (fun _ => rfl) (fun _ => rfl) rfl
  unfold Part.verifying
  dsimp only
  split
  · exact hmove.trans (Part.enterRampFinal_moves Part.slotTaken_moves p (Part.shape_of_core hphase) rfl)
  · exact hmove

theorem Part.changeVerdict_moves (v : Verdict) {c : Change} {s : Part} (hc : s.seq.mode = .changing c) :
    s.Moves (s.changeVerdict v c) := by
  have hs : s.seq.mode.shape = .changing c.phase c.kind := by rw [hc]; rfl
  unfold Part.changeVerdict
  split
  next p _ hph => exact Part.verifying_moves p 1 hs (by rw [hph]; rfl)
  next p _ hph => exact Part.verifying_moves p _ hs (by rw [hph]; rfl)
  next p _ hph => exact Part.modifyChange_carrier hs (by rw [hph]; rfl) (fun _ => rfl) (fun _ => rfl) rfl
  next => exact Part.Moves.refl s

theorem Part.ootRises_moves (p : Pat) (s : Part) : s.Moves (s.ootRises p) := by
  have hrun : ∀ n b, s.Moves (s.setSeq { s.seq with ootRun := n, ootRaised := b }) := fun n b =>
    Part.Moves.of_core (Part.setSeq_core rfl)
  unfold Part.ootRises
  dsimp only
  split
  · exact (hrun _ _).trans (Part.raise_moves _ _ _ _)
  · exact hrun _ _

theorem Part.ootClears_core (s : Part) : s.ootClears.core = s.core :=
  (Part.setSeq_core rfl).trans (s.endCondition_core _ _)

theorem Part.restoreCounts_moves (p : Pat) {s : Part} (h : s.seq.mode.shape = .inPattern) :
    s.Moves (s.restoreCounts p) := by
  have hcount : ∀ n, s.Moves (s.setSeq { s.seq with restore := n }) := fun n =>
    Part.Moves.of_core (Part.setSeq_core rfl)
  unfold Part.restoreCounts
  split
  · exact Part.Moves.refl s
  · dsimp only
    split
    · have hnormal : ∀ t : Part, t.Moves (t.setSeq { t.seq with sub := .normal }) := fun t =>
        Part.Moves.of_core (Part.setSeq_core rfl)
      exact ((hcount _).trans (hnormal _)).trans (Part.rampInPattern_moves _ h)
    · exact hcount _

theorem Part.patternVerdict_moves (v : Verdict) (p : Pat) {s : Part} (h : s.seq.mode.shape = .inPattern) :
    s.Moves (s.patternVerdict v p) := by
  unfold Part.patternVerdict
  split
  · exact Part.Moves.refl s
  · have hrestore : s.Moves (s.setSeq { s.seq with restore := 0 }) := Part.Moves.of_core (Part.setSeq_core rfl)
    dsimp only
    split
    · exact hrestore
    · exact hrestore.trans (Part.ootRises_moves p _)
  · have hclear : (if s.lines.txTrip then s else s.ootClears).core = s.core := by
      split
      · rfl
      · exact s.ootClears_core
    dsimp only
    split
    · exact (Part.Moves.of_core hclear).trans (Part.restoreCounts_moves p (by
        rw [Part.shape_of_core hclear, Part.core_shape, h]))
    · exact Part.Moves.of_core hclear

theorem Part.sequencerVerdict_moves (v : Verdict) (s : Part) : s.Moves (s.sequencerVerdict v) := by
  unfold Part.sequencerVerdict
  split
  next c _ hm => exact Part.changeVerdict_moves v hm
  next p hm _ => exact Part.patternVerdict_moves v p (by rw [hm]; rfl)
  next => exact Part.Moves.refl s

theorem Part.trimVerdict_core (v : Verdict) (s : Part) : (s.trimVerdict v).core = s.core := by
  unfold Part.trimVerdict
  split
  · split
    · exact s.setElems_core _
    · rfl
  · rfl

theorem Part.judge_core (s : Part) : s.judge.core = s.core := by
  cases s
  rfl

theorem Part.completeRound_moves (s : Part) : s.Moves s.completeRound := by
  unfold Part.completeRound
  exact ((((Part.Moves.of_core s.judge_core).trans (Part.handMonitor_sends _ _).moves).trans
    (Part.sequencerVerdict_moves _ _)).trans (Part.Moves.of_core (Part.trimVerdict_core _ _))).trans
    (Part.Moves.of_core (Part.abandonRound_core _))

theorem Part.testRound_moves (s : Part) : s.Moves s.testRound := by
  unfold Part.testRound
  split
  · exact s.completeRound_moves
  · exact Part.Moves.refl s

/-! ### Blocks and samples -/

theorem Part.setTable_readings_moves {s : Part} {x : ReadingTable} (hq : x.quiet = s.table.quiet)
    (hr : x.quietRuns = s.table.quietRuns) : s.Moves (s.setTable x) :=
  Part.Moves.of_outline (Part.setTable_outline hq hr)

theorem Part.endCondition_if_moves (s : Part) (b : Prop) [Decidable b] (k : FaultKind) (o : FaultObject) :
    s.Moves (if b then s.endCondition k o else s) := by
  split
  · exact Part.Moves.of_core (s.endCondition_core k o)
  · exact Part.Moves.refl s

theorem Part.raise_ifProp_moves (s : Part) (b : Prop) [Decidable b] (k : FaultKind) (o : FaultObject)
    (cls : FaultClass) : s.Moves (if b then s.raise k o cls else s) := by
  split
  · exact s.raise_moves k o cls
  · exact Part.Moves.refl s

theorem Part.closeWindow_moves (s : Part) (t : Tower) : s.Moves (s.closeWindow t) := by
  unfold Part.closeWindow
  dsimp only
  refine Part.Moves.trans ?_ (Part.testRound_moves _)
  refine Part.Moves.trans ?_ (Part.Moves.of_core (Part.setRound_core _ _))
  refine Part.Moves.trans ?_ (Part.trimClose_moves _ _)
  refine Part.Moves.trans ?_ (Part.Moves.of_outline (Part.setCorr_outline _ _))
  refine Part.Moves.trans ?_ (Part.endCondition_if_moves _ _ _ _)
  refine Part.Moves.trans ?_ (Part.raise_ifProp_moves _ _ _ _ _)
  exact Part.setTable_readings_moves rfl rfl

theorem Part.addItem_moves (s : Part) (t : Tower) (add : Accum → Accum) : s.Moves (s.addItem t add) := by
  have hadd : ∀ x, s.Moves (s.setCorr x) := fun x => Part.Moves.of_outline (s.setCorr_outline x)
  unfold Part.addItem
  dsimp only
  split
  · exact (hadd _).trans (Part.closeWindow_moves _ _)
  · exact hadd _

theorem Part.modifyEntry_moves (s : Part) (b : BitVec 16) (f : Entry → Entry) : s.Moves (s.modifyEntry b f) :=
  Part.Moves.of_outline (s.setStore_outline _)

theorem Part.combine_moves (s : Part) (b : BitVec 16) (k : Tower) (x : Block) : s.Moves (s.combine b k x) := by
  unfold Part.combine
  split
  · exact Part.Moves.refl s
  · split
    · exact Part.Moves.refl s
    · dsimp only
      split
      · exact (s.modifyEntry_moves _ _).trans (Part.addItem_moves _ _ _)
      · exact s.modifyEntry_moves _ _

theorem Part.combineHeld_moves (b : BitVec 16) (l : List Tower) : ∀ s : Part, s.Moves (Part.combineHeld b l s) := by
  induction l with
  | nil => exact Part.Moves.refl
  | cons k ks ih =>
    intro s
    rw [Part.combineHeld]
    refine Part.Moves.trans ?_ (ih _)
    split
    · exact s.combine_moves _ _ _
    · exact Part.Moves.refl s

theorem Part.weigh_moves (s : Part) (q : Nat) (t : Tower) (x : Block) : s.Moves (s.weigh q t x) := by
  unfold Part.weigh
  dsimp only
  split
  · exact s.setTable_evaluateQuiet_moves _
  · exact Part.Moves.refl s

theorem Part.retire_moves (s : Part) (b : BitVec 16) : s.Moves (s.retire b) :=
  Part.Moves.of_outline (s.setStore_outline _)

theorem Part.strayArrival_moves (s : Part) (t : Tower) (b : BitVec 16) : s.Moves (s.strayArrival t b) := by
  unfold Part.strayArrival
  split
  · exact Part.setTable_readings_moves rfl rfl
  · exact s.raise_moves _ _ _

theorem Part.referenceArrival_moves (s : Part) (e : Entry) (x : Block) : s.Moves (s.referenceArrival e x) := by
  unfold Part.referenceArrival
  dsimp only
  refine Part.Moves.trans ?_ (Part.retire_moves _ _)
  refine Part.Moves.trans ?_ (Part.weigh_moves _ _ _ _)
  refine Part.Moves.trans ?_ (Part.combineHeld_moves _ _ _)
  split
  · exact (s.modifyEntry_moves _ _).trans (Part.addItem_moves _ _ _)
  · exact s.modifyEntry_moves _ _

theorem Part.pairArrival_moves (s : Part) (t : Tower) (e : Entry) (x : Block) : s.Moves (s.pairArrival t e x) := by
  unfold Part.pairArrival
  split
  · exact s.referenceArrival_moves e x
  · dsimp only
    refine Part.Moves.trans ?_ (Part.retire_moves _ _)
    refine Part.Moves.trans ?_ (Part.weigh_moves _ _ _ _)
    split
    · exact s.combine_moves _ _ _
    · exact s.modifyEntry_moves _ _

theorem Part.arrival_moves (s : Part) (t : Tower) (payload : List Byte) : s.Moves (s.arrival t payload) := by
  unfold Part.arrival
  dsimp only
  split
  · exact s.strayArrival_moves _ _
  · split
    · exact Part.Moves.refl s
    · exact s.pairArrival_moves _ _ _

theorem Part.evict_moves (s : Part) (e : Entry) (rest : List Entry) : s.Moves (s.evict e rest) :=
  (Part.Moves.of_outline (s.setStore_outline _)).trans (Part.setTable_evaluateQuiet_moves _ _)

theorem Part.makeRoom_moves (s : Part) (i : BitVec 16) : s.Moves (s.makeRoom i) := by
  have hold : s.Moves (s.closeOld i) := by
    unfold Part.closeOld
    split
    · exact Part.Moves.refl s
    · exact s.evict_moves _ _
  rw [Part.makeRoom]
  refine hold.trans ?_
  unfold Part.evictOldest
  split
  · exact Part.Moves.refl _
  · split
    · exact Part.evict_moves _ _ _
    · exact Part.Moves.refl _

theorem Part.ageReadings_moves (s : Part) : s.Moves s.ageReadings := by
  unfold Part.ageReadings
  refine Part.Moves.trans ?_ (Part.raiseStale_moves _ _)
  exact Part.setTable_readings_moves rfl rfl

theorem Part.coverStale_core (s : Part) : s.coverStale.core = s.core :=
  Part.core_foldl (fun s t => (s.setRound_core _ : (s.cover t).core = s.core)) _ s

/-- R20 to R24, R52, R62: what a block start does after the index has been raised. -/
theorem Part.afterBlockStart_moves (s : Part) (i : BitVec 16) :
    s.Moves (((((s.handBlockStart i).makeRoom i).openEntry i).ageReadings.coverStale).testRound) := by
  refine Part.Moves.trans ?_ (Part.testRound_moves _)
  refine Part.Moves.trans ?_ (Part.Moves.of_core (Part.coverStale_core _))
  refine Part.Moves.trans ?_ (Part.ageReadings_moves _)
  refine Part.Moves.trans ?_ (Part.Moves.of_outline (Part.setStore_outline _ _))
  exact (s.handBlockStart_sends i).moves.trans (Part.makeRoom_moves _ i)

end Sys2Proof.Machine
end

section
/-! SUPPORT. The schedule and the management requests, as moves of the core or as an effect before them. -/

namespace Sys2Proof.Machine

/-! ### The schedule and the clock -/

theorem Part.findInForce_core (s : Part) : s.findInForce.core = s.core := Part.setSched_core rfl

theorem Part.scheduleActs_moves (s : Part) : s.Moves s.scheduleActs := by
  have hsched : ∀ x : Scheduler, x.evalDue = s.sched.evalDue → s.Moves (s.setSched x) := fun x h =>
    Part.Moves.of_core (Part.setSched_core h)
  unfold Part.scheduleActs
  split
  · exact hsched _ rfl
  · split
    · exact Part.Moves.refl s
    · split
      · exact Part.Moves.refl s
      · split
        · exact hsched _ rfl
        · exact (hsched { s.sched with lastRaised := some _ } rfl).trans (Part.raiseRequest_moves _ _ _)

theorem Part.evaluate_moves (s : Part) : s.Moves s.evaluate :=
  (Part.Moves.of_core s.findInForce_core).trans (Part.scheduleActs_moves _)

theorem Part.evaluateOwed_moves (s : Part) : s.Moves s.evaluateOwed := by
  have hfind : s.Moves (s.setSched { s.sched with owed := false }).findInForce :=
    Part.Moves.of_core ((Part.findInForce_core _).trans (Part.setSched_core rfl))
  have hlast : ∀ (t : Part) (p : Pat), t.Moves (t.setSched { t.sched with lastRaised := some p }) := fun t p =>
    Part.Moves.of_core (Part.setSched_core rfl)
  unfold Part.evaluateOwed
  dsimp only
  split
  · exact hfind
  · split
    · exact hfind
    · split
      · exact hfind
      · exact (hfind.trans (hlast _ _)).trans (Part.raiseRequest_moves _ _ _)

theorem Part.takeTime_moves (s : Part) (payload : List Byte) : s.Moves (s.takeTime payload) := by
  unfold Part.takeTime
  split
  · exact (Part.Moves.of_core (s.setClock_core _)).trans (Part.evaluate_moves _)
  · exact s.raise_moves _ _ _

theorem Part.advanceClock_moves (s : Part) (c : Calendar) (d : Uptime) : s.Moves (s.advanceClock c d) := by
  have hclock : ∀ x, s.Moves (s.setClock x) := fun x => Part.Moves.of_core (s.setClock_core x)
  unfold Part.advanceClock
  dsimp only
  split
  · exact ((hclock _).trans (Part.raise_moves _ _ _ _)).trans (Part.evaluate_moves _)
  · split
    · exact hclock _
    · exact (hclock _).trans (Part.evaluate_moves _)

/-! ### Requests without an effect on Table Memory -/

theorem Part.answer_moves (s : Part) (src tag : Byte) (c : RequestCode) (r : Result) (data : List Byte) :
    s.Moves (s.answer src tag c r data) := (s.answer_sends src tag c r data).moves

theorem Part.readBlock_moves (src tag n : Byte) (s : Part) : s.Moves (s.readBlock src tag n) := by
  unfold Part.readBlock
  split <;> exact s.answer_moves _ _ _ _ _

theorem Part.request_moves (src tag : Byte) (code : RequestCode) (target : Option Nat) (s : Part) :
    s.Moves (s.request src tag code target) := by
  unfold Part.request
  split
  · exact s.answer_moves _ _ _ _ _
  · split
    · split
      · exact (s.offerSlot_moves _).trans (Part.answer_moves _ _ _ _ _ _)
      · split
        · exact (s.offerSlot_moves _).trans (Part.answer_moves _ _ _ _ _ _)
        · exact s.answer_moves _ _ _ _ _
    · dsimp only
      split <;> exact (s.startNow_moves _ _).trans (Part.answer_moves _ _ _ _ _ _)

theorem Part.abort_moves (src tag : Byte) {s : Part} (h : s.core.NoneTurning) : s.Moves (s.abort src tag) := by
  have hrevert : ∀ c, s.change? = some c →
      s.Moves (((s.raise .aborted .nothing .d).revert .abort).answer src tag .abort .ok []) := by
    intro c hc
    refine ((s.raise_moves .aborted .nothing .d).trans (Part.revert_moves .abort (c := c) ?_ ?_)).trans
      (Part.answer_moves _ _ _ _ _ _)
    · exact Part.change?_eq hc
    · intro r hr
      rcases List.mem_append.mp (show r ∈ s.raised ++ _ from hr) with hr | hr
      · exact h r hr
      · simp [List.mem_singleton.mp hr]
  unfold Part.abort
  split
  next => exact s.answer_moves _ _ _ _ _
  next c hc =>
    split
    · exact s.answer_moves _ _ _ _ _
    · exact hrevert c hc
    · exact hrevert c hc

theorem Part.recover_moves (src tag : Byte) (s : Part) : s.Moves (s.recover src tag) := by
  unfold Part.recover
  split
  next h =>
    have hidle : s.endEventRecords.restartIdle.outline = s.outline := by simp
    have hshape : s.core.shape = .halted := by
      simp only [Part.isHalted, beq_iff_eq] at h
      rw [Part.core_shape, h]
      rfl
    have hrecover : s.Moves (s.endEventRecords.restartIdle.setSeq
        { s.endEventRecords.restartIdle.seq with mode := .stopped, active := none }) :=
      Part.Moves.of_move (.recover s.core hshape) (by rw [Part.setSeq_core_eq, Part.core_of_outline hidle]; rfl)
    exact hrecover.trans (Part.answer_moves _ _ _ _ _ _)
  next => exact s.answer_moves _ _ _ _ _

theorem Part.clearSummary_core (s : Part) : s.clearSummary.core = s.core :=
  (Part.setSeq_core rfl).trans (Part.core_of_outline (Part.setTable_outline rfl rfl))

theorem Part.readStatus_moves (src tag : Byte) (s : Part) : s.Moves (s.readStatus src tag) :=
  ((Part.Moves.of_core s.clearSummary_core).trans (Part.answer_moves _ _ _ _ _ _)).trans
    (Part.Moves.of_outline (Part.nextFree_outline _))

theorem Part.readReadings_moves (src tag : Byte) (s : Part) : s.Moves (s.readReadings src tag) :=
  s.answer_moves _ _ _ _ _

theorem Part.readFaults_moves (src tag start : Byte) (s : Part) : s.Moves (s.readFaults src tag start) :=
  (s.answer_moves _ _ _ _ _).trans (Part.Moves.of_outline (Part.nextFree_outline _))

theorem Part.clearFaults_moves (src tag : Byte) (s : Part) : s.Moves (s.clearFaults src tag) :=
  (Part.Moves.of_outline (s.setFaults_outline _)).trans (Part.answer_moves _ _ _ _ _ _)

theorem Part.unknownRequest_moves (src : Byte) (payload : List Byte) (s : Part) :
    s.Moves (s.unknownRequest src payload) := by
  unfold Part.unknownRequest
  split <;> exact (s.reply_sends _).moves

theorem Part.endReset_moves {s : Part} (h : s.ramp.level = 0) : s.Moves s.endReset := by
  have hpower : ∀ t : Part, t.ramp.level = 0 → t.Moves (t.handPower 0) := by
    intro t ht
    obtain ⟨p, hp, e⟩ := t.handPower_core 0
    exact Part.Moves.of_move (.power t.core (by rwa [Part.core_ramp, ht])) e
  unfold Part.endReset
  split
  · exact s.raiseTrip_moves.trans (hpower _ h)
  · exact hpower s h

/-! ### What an event may do first -/

/-- What an event does to Table Memory, to the block index or to the whole part before anything else. -/
inductive Effect where
  | nothing
  | write (n : Nat)
  | commit
  | licenceDone
  | warmReset
  | block

/-- Each effect, on the core of the part. -/
inductive Core.Does : Effect → Core → Core → Prop
  | nothing (c : Core) : Core.Does .nothing c c
  /-- R2: block n, which is populated and not of the active bank, is written. -/
  | write (c : Core) {n : Nat} {t : Tables} (hn : n < 80 ∨ 122 < n)
      (hm : c.tables.mem.wf = true → t.mem.wf = true ∧
        ∀ a, a < 64 * n ∨ 64 * n + 64 ≤ a → t.mem.read a = c.tables.mem.read a) :
      Core.Does (.write n) c { c with tables := t }
  /-- R18: the staged bank has been validated. -/
  | commit (c : Core) (x : StagedState) : Core.Does .commit c { c with tables := { c.tables with staged := x } }
  /-- R4: a licence write in flight, if there is one, completes. -/
  | licenceDone (c : Core) : Core.Does .licenceDone c { c with tables := { c.tables with licenceWrite := none } }
  /-- R178: the part is reset, Table Memory kept. -/
  | warmReset (c : Core) (w : Option LicenceWrite) :
      Core.Does .warmReset c
        { held := false, tables := { c.tables with licenceWrite := w }, timer := Part.cold.timer
          quiet := quietUnder c.tables.mem (Vector.replicate 12 0), quietRuns := Vector.replicate 12 0
          shape := .stopped, ramp := Part.cold.ramp, power := none, evalDue := c.evalDue, raised := [] }
  /-- R20: a block starts. -/
  | block (c : Core) (x : BlockTimer) : Core.Does .block c { c with timer := x }

/-- An operation does an effect and then moves. -/
def Part.Does (e : Effect) (s t : Part) : Prop :=
  ∃ c, Core.Does e s.core c ∧ Relation.ReflTransGen Core.Move c t.core

theorem Part.Moves.does {s t : Part} (h : s.Moves t) : s.Does .nothing t := ⟨s.core, .nothing _, h.path⟩

theorem Part.Does.moves {e : Effect} {s t u : Part} (h : s.Does e t) (h' : t.Moves u) : s.Does e u := by
  obtain ⟨c, hc, hm⟩ := h
  exact ⟨c, hc, hm.trans h'.path⟩

theorem Part.Does.of_core {e : Effect} {s s' t : Part} (h : s'.core = s.core) (hd : s'.Does e t) : s.Does e t := by
  obtain ⟨c, hc, hm⟩ := hd
  exact ⟨c, h ▸ hc, hm⟩

theorem Part.Does.of_effect {e : Effect} {s t : Part} {c : Core} (h : Core.Does e s.core c) (ht : t.core = c) :
    s.Does e t := ⟨c, h, by rw [ht]⟩

/-! ### Writes, COMMIT and RESET -/

theorem patOf_eq_some {n : Nat} {p : Pat} (h : patOf n = some p) : p.val = n := by
  unfold patOf at h
  split at h
  · simp only [Option.some.injEq] at h
    rw [← h]
  · simp at h

/-- What a write of block n leaves of Table Memory outside the block. -/
theorem Memory.writeBytes_frame {n : Nat} {data : List Byte} (hlen : data.length = 64) {m : Memory}
    (hm : m.wf = true) : (m.writeBytes (blockAddr n) data).wf = true ∧
      ∀ a, a < 64 * n ∨ 64 * n + 64 ≤ a → (m.writeBytes (blockAddr n) data).read a = m.read a := by
  refine ⟨Memory.wf_writeBytes data m _ hm, fun a ha => ?_⟩
  rw [Memory.read_writeBytes a data m _ hm, blockAddr, hlen, if_neg (by omega)]

/-- R4: the part with licence block p replaced and the write in flight. -/
def Part.licenceWritten (s : Part) (p : Pat) (data : List Byte) : Part :=
  s.setTables
    { mem := s.tables.mem.writeBytes (blockAddr p.val) data
      licenceWrite := some
        { block := p, old := s.tables.mem.readBytes (blockAddr p.val) 64, deadline := after s.uptime licenceTime }
      staged := if s.tables.staged = .ready then .editing else s.tables.staged }

theorem Part.writeLicence_eq (s : Part) (p : Pat) (data : List Byte) :
    s.writeLicence p data =
      if (s.licenceWritten p data).governing = some p
      then (s.licenceWritten p data).clampLicence.settleRamp Part.slotTaken
      else s.licenceWritten p data := rfl

theorem Part.writeLicence_does (s : Part) (p : Pat) {data : List Byte} (hlen : data.length = 64) :
    s.Does (.write p.val) (s.writeLicence p data) := by
  have hwrite : s.Does (.write p.val) (s.licenceWritten p data) :=
    Part.Does.of_effect (.write s.core (.inl (by omega)) (Memory.writeBytes_frame hlen)) rfl
  rw [Part.writeLicence_eq]
  split
  · exact (hwrite.moves (Part.clampLicence_moves _)).moves (Part.settleRamp_moves Part.slotTaken_moves _)
  · exact hwrite

theorem Part.acceptWrite_does (s : Part) {n : Nat} (hn : n < 80 ∨ 122 < n) {data : List Byte}
    (hlen : data.length = 64) : s.Does (.write n) (s.acceptWrite n data) := by
  have hwrite : ∀ x : StagedState, s.Does (.write n) (s.setTables
      { s.tables with mem := s.tables.mem.writeBytes (blockAddr n) data, staged := x }) := fun x =>
    Part.Does.of_effect (.write s.core hn (Memory.writeBytes_frame hlen)) rfl
  unfold Part.acceptWrite
  split
  next p hp =>
    rw [← patOf_eq_some hp]
    exact s.writeLicence_does p hlen
  next =>
    dsimp only
    split
    · exact hwrite _
    · exact (hwrite _).moves (Part.evaluate_moves _)

theorem Part.writeBlock_does (src tag n : Byte) (data : List Byte) (s : Part) :
    s.Does .nothing (s.writeBlock src tag n data) ∨ s.Does (.write n.toNat) (s.writeBlock src tag n data) := by
  unfold Part.writeBlock
  split
  · exact .inl (s.answer_moves _ _ _ _ _).does
  next hlen =>
    split
    · exact .inl (s.answer_moves _ _ _ _ _).does
    next hok =>
      refine .inr ((s.acceptWrite_does ?_ (by simpa using hlen)).moves (Part.answer_moves _ _ _ _ _ _))
      by_contra hn
      have hw : within 80 122 n.toNat = true := by
        simp only [within, Bool.and_eq_true, decide_eq_true_eq]
        omega
      simp only [Part.writeRefusal, hw, if_true] at hok
      split at hok <;> simp at hok

theorem Part.commit_does (src tag : Byte) (s : Part) : s.Does .commit (s.commit src tag) := by
  have hset : ∀ x, s.Does .commit (s.setStaged x) := fun x => Part.Does.of_effect (.commit s.core x) rfl
  unfold Part.commit
  split <;> exact (hset _).moves (Part.answer_moves _ _ _ _ _ _)

theorem Part.warmReset_does (s : Part) : s.Does .warmReset s.warmReset := by
  unfold Part.warmReset
  dsimp only
  generalize hx : ({ Part.cold with
      lines := s.lines
      tables :=
        { s.tables with
          licenceWrite := s.tables.licenceWrite.map fun w => { w with deadline := rebase s.uptime w.deadline } }
      table := { Part.cold.table with readings := Vector.replicate 12 Reading.fresh }
      faults := s.faults.afterWarmReset
      clock := { s.clock with second := s.clock.second.map (rebase s.uptime) }
      sched := { s.sched with owed := false }
      free := s.free } : Part) = x
  have hidle := Part.core_of_outline x.restartIdle_outline
  have htables : x.restartIdle.tables = x.tables := congrArg Core.tables hidle
  have hruns : x.restartIdle.table.quietRuns = x.table.quietRuns := congrArg Core.quietRuns hidle
  refine Part.Does.of_effect (.warmReset s.core
    (s.tables.licenceWrite.map fun w => { w with deadline := rebase s.uptime w.deadline })) ?_
  rw [Part.setTable_core_eq, Part.quietNow_eq, hidle, htables, hruns, ← hx]
  rfl

theorem Part.resetRequest_does (src tag : Byte) (s : Part) :
    s.Does .nothing (s.resetRequest src tag) ∨ s.Does .warmReset (s.resetRequest src tag) := by
  unfold Part.resetRequest
  split
  · exact .inl (s.answer_moves _ _ _ _ _).does
  · have hans := s.warmReset.answer_sends src tag .reset .ok []
    refine .inr ((s.warmReset_does.moves hans.moves).moves (Part.endReset_moves ?_))
    rw [hans.ramp]
    rfl

theorem Part.does_ite {s t u : Part} {b : Prop} [Decidable b] (ht : ∃ e, s.Does e t) (hu : ∃ e, s.Does e u) :
    ∃ e, s.Does e (if b then t else u) := by
  split
  · exact ht
  · exact hu

/-- R175: a request is decided, with at most one effect. -/
theorem Part.takeRequest_does (src : Byte) (payload : List Byte) {s : Part} (h : s.core.NoneTurning) :
    ∃ e, s.Does e (s.takeRequest src payload) := by
  have hunknown : ∃ e, s.Does e (s.unknownRequest src payload) := ⟨_, (s.unknownRequest_moves src payload).does⟩
  unfold Part.takeRequest
  split
  next tag code args =>
    have hwrite : ∃ e, s.Does e (s.writeBlock src tag (args.getD 0 0) (args.drop 1)) := by
      rcases Part.writeBlock_does src tag (args.getD 0 0) (args.drop 1) s with hw | hw <;> exact ⟨_, hw⟩
    have hreset : ∃ e, s.Does e (s.resetRequest src tag) := by
      rcases s.resetRequest_does src tag with hw | hw <;> exact ⟨_, hw⟩
    refine Part.does_ite ⟨_, (Part.readBlock_moves _ _ _ s).does⟩ ?_
    refine Part.does_ite hwrite ?_
    refine Part.does_ite ⟨_, s.commit_does src tag⟩ ?_
    refine Part.does_ite ⟨_, (Part.request_moves _ _ _ _ s).does⟩ ?_
    refine Part.does_ite ⟨_, (Part.request_moves _ _ _ _ s).does⟩ ?_
    refine Part.does_ite ⟨_, (Part.abort_moves src tag h).does⟩ ?_
    refine Part.does_ite ⟨_, (s.recover_moves src tag).does⟩ ?_
    refine Part.does_ite ⟨_, (s.readStatus_moves src tag).does⟩ ?_
    refine Part.does_ite ⟨_, (s.readReadings_moves src tag).does⟩ ?_
    refine Part.does_ite ⟨_, (s.readFaults_moves src tag _).does⟩ ?_
    refine Part.does_ite ⟨_, (s.clearFaults_moves src tag).does⟩ ?_
    exact Part.does_ite hreset hunknown
  next => exact hunknown

/-- R189: a request that section 12.3 does not give is answered UNKNOWN. -/
theorem Part.takeRequest_unknown (src : Byte) {payload : List Byte} (h : knownRequest payload = false) (s : Part) :
    s.takeRequest src payload = s.unknownRequest src payload := by
  unfold Part.takeRequest
  split
  next tag code args =>
    simp only [knownRequest, Bool.or_eq_false_iff, Bool.and_eq_false_iff, beq_eq_false_iff_ne] at h
    rw [if_neg, if_neg, if_neg, if_neg, if_neg, if_neg, if_neg, if_neg, if_neg, if_neg, if_neg, if_neg]
    all_goals
      simp only [RequestCode.code]
      tauto
  next => rfl

end Sys2Proof.Machine
end

section
/-! SUPPORT. Received frames, expiries and lines, as moves of the core. -/

namespace Sys2Proof.Machine

/-! ### Received frames -/

theorem Part.takeSample_moves (f : Frame) (s : Part) : s.Moves (s.takeSample f) := by
  unfold Part.takeSample
  split
  · exact Part.Moves.refl s
  · split
    · have harrive := (s.arrival_moves (by assumption) f.payload).trans (Part.settle_moves _)
      dsimp only
      split
      · exact harrive.trans (Part.queueStation_sends _ _ _).moves
      · exact harrive
    · exact Part.Moves.refl s

theorem Part.takeState_moves (f : Frame) (s : Part) : s.Moves (s.takeState f) := by
  unfold Part.takeState
  refine Part.Moves.trans ?_ (Part.queueStation_sends _ _ _).moves
  split
  · exact Part.stateEntries_moves _ _ s
  · exact Part.Moves.refl s

theorem Part.receiveField_moves (f : Frame) (s : Part) : s.Moves (s.receiveField f) := by
  rw [Part.receiveField]
  refine (Part.Moves.of_core (s.linkAlive_core .field)).trans ?_
  unfold Part.disposeField
  split
  · exact Part.Moves.refl _
  · split
    · split
      · exact Part.takeSample_moves f _
      · split
        · exact Part.takeState_moves f _
        · exact Part.Moves.refl _
    · split
      · exact (Part.queueStation_sends _ _ _).moves
      · exact Part.Moves.refl _

theorem Part.carryOut_sends (s : Part) (e : Elem) (f : Frame) (d : GuardDecision) : s.Sends (s.carryOut e f d) := by
  unfold Part.carryOut
  split
  · exact s.refuse_sends f _
  · split
    · exact (Part.Sends.of_core (s.recordCommand_core _ _ _ _)).trans (Part.placeField_sends _ _ _)
    · exact Part.Sends.of_core (s.countDiscard_core .station)

theorem Part.guardField_sends (f : Frame) (s : Part) : s.Sends (s.guardField f) := by
  unfold Part.guardField
  split
  · exact s.refuse_sends f _
  · split
    · exact s.queueField_sends f
    · split
      · exact s.carryOut_sends _ f _
      · exact s.carryOut_sends _ f _
      · exact s.queueField_sends f

theorem Part.setLevel_moves {s : Part} (l : Nat) (h : s.isInPattern = true) : s.Moves (s.setLevel l) := by
  have hs : s.core.shape = .inPattern := by
    unfold Part.isInPattern at h
    split at h
    next hm => rw [Part.core_shape, hm]; rfl
    next => simp at h
  refine Part.Moves.of_move (.order s.core (r := { s.ramp with level := l, target := l })
    (p := s.station.power.map fun _ => l) (.inr hs) rfl (.inl ?_)) rfl
  cases s.station.power with
  | none => exact .inl rfl
  | some x => exact .inr rfl

theorem Part.takePower_moves (f : Frame) (s : Part) : s.Moves (s.takePower f) := by
  unfold Part.takePower
  split
  · exact (s.refuse_sends f _).moves
  next h =>
    split
    · exact (s.refuse_sends f _).moves
    · split
      · exact (s.refuse_sends f _).moves
      · split
        · exact (Part.setLevel_moves _ (by simpa using h)).trans (Part.queueStation_sends _ _ _).moves
        · exact Part.Moves.of_core (s.countDiscard_core .station)

theorem Part.takeTxState_moves (f : Frame) (s : Part) : s.Moves (s.takeTxState f) := by
  unfold Part.takeTxState
  split
  · refine Part.Moves.trans ?_ (Part.settleRamp_moves Part.slotTaken_moves _)
    exact Part.setRamp_moves rfl rfl (.inl rfl) id
  · exact Part.Moves.refl s

theorem Part.disposeStation_moves {f : Frame} (h : f.dst = 0 → f.kind ≠ FrameKind.mgmtReq.code) (s : Part) :
    s.Moves (s.disposeStation f) := by
  unfold Part.disposeStation
  split
  next h0 =>
    rw [if_neg (h h0)]
    split
    · exact s.takeTime_moves _
    · exact Part.Moves.refl s
  next =>
    split
    · exact (s.guardField_sends f).moves
    · split
      · exact s.takePower_moves f
      · split
        · exact (s.queueStation_sends _ f).moves
        · exact Part.Moves.refl s

theorem Part.receiveStation_moves {f : Frame} (h : f.dst = 0 → f.kind ≠ FrameKind.mgmtReq.code) (s : Part) :
    s.Moves (s.receiveStation f) :=
  ((Part.Moves.of_core (s.linkAlive_core .station)).trans (Part.takeTxState_moves f _)).trans
    (Part.disposeStation_moves h _)

/-- A frame at the Station Port, with at most one effect. -/
theorem Part.receiveStation_does (f : Frame) {s : Part} (h : s.core.NoneTurning) :
    ∃ e, s.Does e (s.receiveStation f) := by
  by_cases hf : f.dst = 0 ∧ f.kind = FrameKind.mgmtReq.code
  · obtain ⟨hdst, hkind⟩ := hf
    have hreq : s.receiveStation f = (s.linkAlive .station).takeRequest f.src f.payload := by
      have htx : (s.linkAlive .station).takeTxState f = s.linkAlive .station := by
        rw [Part.takeTxState, if_neg (fun hx => absurd (hkind.symm.trans hx.1) (by decide))]
      rw [Part.receiveStation, htx, Part.disposeStation, if_pos hdst, if_pos hkind]
    have halive := s.linkAlive_core .station
    obtain ⟨e, he⟩ := Part.takeRequest_does f.src f.payload (s := s.linkAlive .station) (by rwa [halive])
    exact ⟨e, hreq ▸ Part.Does.of_core halive he⟩
  · exact ⟨_, (Part.receiveStation_moves (fun hd hk => hf ⟨hd, hk⟩) s).does⟩

/-! ### Expiries and lines -/

theorem Part.atDeadline_core (s : Part) (d : Uptime) : (s.atDeadline d).core = s.core := by
  unfold Part.atDeadline
  split <;> rfl

theorem Part.expire_moves (d : Option Uptime) {op : Uptime → Part → Part} (h : ∀ d (s : Part), s.Moves (op d s))
    (s : Part) : s.Moves (s.expire d op) := by
  unfold Part.expire
  split
  · exact Part.Moves.refl s
  · exact (Part.Moves.of_core (s.atDeadline_core _)).trans (h _ _)

theorem Part.setTimer_core_eq (s : Part) (x : BlockTimer) : (s.setTimer x).core = { s.core with timer := x } := rfl

theorem Part.startBlock_moves (s : Part) :
    (s.setTimer { s.timer with index := s.timer.index + 1 }).Moves s.startBlock :=
  Part.afterBlockStart_moves (s.setTimer { s.timer with index := s.timer.index + 1 }) (s.timer.index + 1)

theorem Part.blockExpires_eq (s : Part) :
    s.blockExpires = ((s.atDeadline s.timer.deadline).setTimer
      { (s.atDeadline s.timer.deadline).timer with deadline := after s.timer.deadline blockTime }).startBlock := rfl

theorem Part.blockExpires_does (s : Part) : s.Does .block s.blockExpires := by
  have hd := s.atDeadline_core s.timer.deadline
  have key : ∀ t : Part, t.core = s.core → ∀ x : BlockTimer, s.Does .block (t.setTimer x).startBlock := by
    intro t ht x
    refine Part.Does.moves (Part.Does.of_effect (.block s.core { x with index := x.index + 1 }) ?_)
      (Part.startBlock_moves (t.setTimer x))
    rw [Part.setTimer_core_eq, Part.setTimer_core_eq, ht]
    rfl
  rw [Part.blockExpires_eq]
  exact key _ hd _

theorem Part.licenceDone_does (s : Part) : s.Does .licenceDone s.licenceDone := by
  refine Part.Does.of_effect (.licenceDone s.core) ?_
  unfold Part.licenceDone Part.expire
  cases hw : s.tables.licenceWrite with
  | none =>
    have htables : s.tables = { s.tables with licenceWrite := none } := by rw [← hw]
    exact congrArg (fun t : Tables => { s.core with tables := t }) htables
  | some w =>
    have hset : ∀ t : Part, t.core = s.core → (t.setTables { t.tables with licenceWrite := none }).core =
        { s.core with tables := { s.core.tables with licenceWrite := none } } := fun t h => by rw [← h]; rfl
    exact hset _ (s.atDeadline_core w.deadline)

theorem Part.silenceExpires_moves (e : Elem) (s : Part) : s.Moves (s.silenceExpires e) :=
  Part.expire_moves _ (fun _ s => s.fallSilent_moves e) s

theorem Part.commandDue_moves (e : Elem) (s : Part) : s.Moves (s.commandDue e) := by
  unfold Part.commandDue
  split
  · exact Part.Moves.refl s
  · exact (Part.Moves.of_core (s.atDeadline_core _)).trans (Part.commandExpires_moves _ _ _)

theorem Part.dwellExpires_moves (s : Part) : s.Moves s.dwellExpires :=
  Part.expire_moves _ (fun _ s => s.dwellOver_moves) s

theorem Part.phaseExpires_moves (s : Part) : s.Moves s.phaseExpires :=
  Part.expire_moves _ (fun _ s =>
    (Part.Moves.of_outline (s.setPhaseDeadline_outline none)).trans (Part.raise_moves _ _ _ _)) s

theorem Part.settleExpires_moves (s : Part) : s.Moves s.settleExpires :=
  Part.expire_moves _ (fun _ s =>
    Part.Moves.trans (t := s.modifyChange fun c => { c with settleDeadline := none })
      (Part.Moves.of_core (Part.modifyChange_core (fun _ => rfl) fun _ => rfl)) (Part.raise_moves _ _ _ _)) s

theorem Part.sendDue_moves (s : Part) : s.Moves s.sendDue :=
  Part.expire_moves _ (fun _ s => s.sendRamp_moves.trans (Part.settleRamp_moves Part.slotTaken_moves _)) s

theorem Part.rampExpires_moves (s : Part) : s.Moves s.rampExpires := by
  refine Part.expire_moves _ (fun _ s => ?_) s
  have hdeadline : s.Moves (s.setRamp { s.ramp with deadline := none }) := Part.setRamp_moves rfl rfl (.inl rfl) id
  dsimp only
  split
  · exact hdeadline.trans (Part.raise_moves _ _ _ _)
  · exact hdeadline

theorem Part.linkExpires_moves (p : Port) (s : Part) : s.Moves (s.linkExpires p) :=
  Part.expire_moves _ (fun _ s => s.linkLost_moves p) s

theorem Part.secondExpires_moves (s : Part) : s.Moves s.secondExpires := by
  unfold Part.secondExpires
  split
  · exact Part.Moves.refl s
  · exact Part.expire_moves _ (fun d s => s.advanceClock_moves _ d) s

theorem Part.scheduleDue_moves (s : Part) : s.Moves s.scheduleDue :=
  (Part.Moves.of_move (.evaluate s.core) (s.setSched_core_eq _)).trans (Part.evaluate_moves _)

theorem Part.endTrip_moves (s : Part) : s.Moves s.endTrip := by
  have hend := s.endCondition_core .txTrip .nothing
  refine (Part.Moves.of_core hend).trans ?_
  unfold Part.endTrip
  dsimp only
  split
  · exact Part.Moves.refl _
  · obtain ⟨p, hp, e⟩ := (s.endCondition .txTrip .nothing).handPower_core (s.endCondition .txTrip .nothing).ramp.level
    exact Part.Moves.of_move (.power _ hp) e

theorem Part.evaluateRelease_moves (s : Part) : s.Moves s.evaluateRelease := by
  unfold Part.evaluateRelease
  split
  · exact s.evaluateOwed_moves
  · exact s.evaluate_moves

theorem Part.setLines_moves (s : Part) (x : Lines) : s.Moves (s.setLines x) := Part.Moves.of_core (s.setLines_core x)

theorem Part.panelGo_moves (sel : Pat) (s : Part) : s.Moves (s.panelGo sel) := by
  unfold Part.panelGo
  dsimp only
  split
  · exact (s.setLines_moves _).trans (Part.raiseRequest_moves _ _ _)
  · exact s.setLines_moves _

theorem Part.panelStop_moves (s : Part) : s.Moves s.panelStop := by
  unfold Part.panelStop
  split
  · exact s.raiseRequest_moves _ _
  · exact Part.Moves.refl s

/-! ### Every command -/

/-- The effects that a well-formed command may have. -/
def Instr.mayDo : Instr → Effect → Prop
  | .writeBlock _ _ n _ _, e => e = .nothing ∨ e = .write n.toNat
  | .commit _ _, e => e = .commit
  | .licenceWriteComplete, e => e = .licenceDone
  | .reset _ _, e => e = .nothing ∨ e = .warmReset
  | .blockTimerExpiry, e => e = .block
  | _, e => e = .nothing

/-- What a command does to a part that has nothing else to take first: nothing to its core, or one effect and
moves. -/
def Part.Takes (c : Instr) (s t : Part) : Prop :=
  t.core = s.core ∨
    (s.held = false ∧ ∃ e, (c.wf = true → Instr.mayDo c e) ∧ (s.setRaised []).Does e t)

theorem Part.event_takes {c : Instr} {op : Part → Part}
    (h : ∀ s : Part, s.raised = [] → ∃ e, (c.wf = true → Instr.mayDo c e) ∧ s.Does e (op s)) (s : Part) :
    s.Takes c (s.event op) := by
  unfold Part.event
  split
  · exact .inl rfl
  next hheld =>
    obtain ⟨e, he, hd⟩ := h (s.setRaised []) rfl
    exact .inr ⟨by simpa using hheld, e, he, hd.moves (Part.settle_drivePins_moves _)⟩

theorem Part.event_takes_of_moves {c : Instr} {op : Part → Part} (hc : c.wf = true → Instr.mayDo c .nothing)
    (h : ∀ s : Part, s.Moves (op s)) (s : Part) : s.Takes c (s.event op) :=
  Part.event_takes (fun s _ => ⟨_, hc, (h s).does⟩) s

theorem Part.lineEvent_takes {c : Instr} {level : Lines → Lines} {op : Part → Part}
    (hc : c.wf = true → Instr.mayDo c .nothing) (h : ∀ s : Part, s.Moves (op s)) (s : Part) :
    s.Takes c (s.lineEvent level op) := by
  unfold Part.lineEvent
  split
  · exact .inl rfl
  · exact Part.event_takes_of_moves hc (fun s => (s.setLines_moves _).trans (h _)) s

/-- A request that is only answered, or moves the part. -/
theorem Part.event_heard_takes {c : Instr} {op : Part → Part} (hc : c.wf = true → Instr.mayDo c .nothing)
    (h : ∀ s : Part, s.Moves (op s)) (s : Part) : s.Takes c (s.event fun s => op (s.linkAlive .station)) :=
  Part.event_takes_of_moves hc (fun s => (Part.Moves.of_core (s.linkAlive_core .station)).trans (h _)) s

/-- A frame at the Station Port. -/
theorem Part.event_station_takes {c : Instr} {f : Frame}
    (hc : c.wf = true → Instr.mayDo c .nothing ∧ (f.dst = 0 → f.kind ≠ FrameKind.mgmtReq.code)) (s : Part) :
    s.Takes c (s.event fun s => s.receiveStation f) := by
  refine Part.event_takes (fun s hs => ?_) s
  by_cases hw : c.wf = true
  · exact ⟨_, fun _ => (hc hw).1, (Part.receiveStation_moves (hc hw).2 s).does⟩
  · obtain ⟨e, he⟩ := Part.receiveStation_does f (s := s) fun r hr => by
      rw [Part.core_raised, hs] at hr
      simp at hr
    exact ⟨e, fun h => absurd h hw, he⟩

end Sys2Proof.Machine
end

section
/-! SUPPORT. Every command, taken by the part that a due evaluation leaves. -/

namespace Sys2Proof.Machine

/-- A command takes a part on from the evaluation that is due. -/
def Part.Obeys (c : Instr) (s : State) : Prop :=
  ∃ p, exec c s = .next { s with part := p } ∧ s.part.evaluated.Takes c p

theorem Part.obeys_of_event {c : Instr} {s : State} {op : Part → Part} (h : exec c s = s.run (Part.event op))
    (ht : ∀ p : Part, p.Takes c (p.event op)) : Part.Obeys c s :=
  ⟨_, h, ht _⟩

theorem Part.obeys_of_moves {c : Instr} {s : State} {op : Part → Part} (h : exec c s = s.run (Part.event op))
    (hc : c.wf = true → Instr.mayDo c .nothing) (hm : ∀ p : Part, p.Moves (op p)) : Part.Obeys c s :=
  ⟨_, h, Part.event_takes_of_moves hc hm _⟩

theorem Part.obeys_of_heard {c : Instr} {s : State} {op : Part → Part}
    (h : exec c s = s.run (Part.event fun p => op (p.linkAlive .station)))
    (hc : c.wf = true → Instr.mayDo c .nothing) (hm : ∀ p : Part, p.Moves (op p)) : Part.Obeys c s :=
  ⟨_, h, Part.event_heard_takes hc hm _⟩

theorem Part.obeys_of_station {c : Instr} {s : State} {f : Frame}
    (h : exec c s = s.run (Part.event fun p => p.receiveStation f))
    (hc : c.wf = true → Instr.mayDo c .nothing ∧ (f.dst = 0 → f.kind ≠ FrameKind.mgmtReq.code)) : Part.Obeys c s :=
  ⟨_, h, Part.event_station_takes hc _⟩

theorem FrameKind.code_ne_mgmtReq {k : FrameKind} (h : k ≠ .mgmtReq) : k.code ≠ FrameKind.mgmtReq.code := by
  cases k <;> simp_all [FrameKind.code]

/-- A frame at the Station Port of a kind that is no request. -/
theorem Part.obeys_of_kind {c : Instr} {s : State} {k : FrameKind} {dst src : Byte} {payload : List Byte}
    (hk : k ≠ .mgmtReq) (hc : c.wf = true → Instr.mayDo c .nothing)
    (h : exec c s = s.run (Part.event fun p =>
      p.receiveStation { dst := dst, src := src, kind := k.code, payload := payload })) : Part.Obeys c s :=
  Part.obeys_of_station h fun hw => ⟨hc hw, fun _ => FrameKind.code_ne_mgmtReq hk⟩

theorem Part.obeys_of_run {c : Instr} {s : State} {op : Part → Part} (h : exec c s = s.run op)
    (ht : ∀ p : Part, p.Takes c (op p)) : Part.Obeys c s :=
  ⟨_, h, ht _⟩

theorem Part.noneTurning_of_none {s : Part} (h : s.raised = []) : s.core.NoneTurning := fun r hr => by
  rw [Part.core_raised, h] at hr
  simp at hr

theorem obeys_blockTimerExpiry (s : State) : Part.Obeys .blockTimerExpiry s :=
  Part.obeys_of_event rfl (Part.event_takes fun s _ => ⟨.block, fun _ => rfl, s.blockExpires_does⟩)

theorem obeys_frameEnvelopeFail (port : Port) (bytes : List Byte) (s : State) :
    Part.Obeys (.frameEnvelopeFail port bytes) s := by
  refine Part.obeys_of_event rfl ?_
  cases hf : frameOfBytes bytes with
  | none =>
    have hop : (fun s : Part => s.receiveBytes port bytes) = id := by
      funext s
      simp only [Part.receiveBytes, hf, id]
    rw [hop]
    exact Part.event_takes_of_moves (fun _ => rfl) Part.Moves.refl
  | some f =>
    have hwf : (Instr.frameEnvelopeFail port bytes).wf ≠ true := by simp [Instr.wf, hf]
    cases port with
    | field =>
      have hop : (fun s : Part => s.receiveBytes .field bytes) = Part.receiveField f := by
        funext s
        simp only [Part.receiveBytes, hf]
      rw [hop]
      exact Part.event_takes_of_moves (fun h => absurd h hwf) (Part.receiveField_moves f)
    | station =>
      have hop : (fun s : Part => s.receiveBytes .station bytes) = fun s => s.receiveStation f := by
        funext s
        simp only [Part.receiveBytes, hf]
      rw [hop]
      exact Part.event_station_takes (fun h => absurd h hwf)

theorem obeys_writeBlock (src tag n : Byte) (key : Bool) (data : List Byte) (s : State) :
    Part.Obeys (.writeBlock src tag n key data) s := by
  refine Part.obeys_of_event rfl (Part.event_takes fun s _ => ?_)
  have hcore : ((s.linkAlive .station).setKey key).core = s.core := s.linkAlive_core .station
  rcases Part.writeBlock_does src tag n data ((s.linkAlive .station).setKey key) with h | h
  · exact ⟨_, fun _ => .inl rfl, Part.Does.of_core hcore h⟩
  · exact ⟨_, fun _ => .inr rfl, Part.Does.of_core hcore h⟩

theorem obeys_commit (src tag : Byte) (s : State) : Part.Obeys (.commit src tag) s :=
  Part.obeys_of_event rfl (Part.event_takes fun s _ => ⟨.commit, fun _ => rfl,
    Part.Does.of_core (s.linkAlive_core .station) (Part.commit_does src tag _)⟩)

theorem obeys_licenceWriteComplete (s : State) : Part.Obeys .licenceWriteComplete s :=
  Part.obeys_of_event rfl (Part.event_takes fun s _ => ⟨.licenceDone, fun _ => rfl, s.licenceDone_does⟩)

theorem obeys_abort (src tag : Byte) (s : State) : Part.Obeys (.abort src tag) s := by
  refine Part.obeys_of_event rfl (Part.event_takes fun s hs => ⟨.nothing, fun _ => rfl, ?_⟩)
  have hcore := s.linkAlive_core .station
  exact Part.Does.of_core hcore (Part.abort_moves src tag (hcore ▸ Part.noneTurning_of_none hs)).does

theorem Part.setKey_readStatus_moves (src tag : Byte) (key : Bool) (s : Part) :
    s.Moves ((s.setKey key).readStatus src tag) :=
  (s.setLines_moves { s.lines with licenceKey := key }).trans (Part.readStatus_moves src tag _)

theorem obeys_readStatus (src tag : Byte) (key : Bool) (s : State) : Part.Obeys (.readStatus src tag key) s :=
  Part.obeys_of_heard (op := fun p => (p.setKey key).readStatus src tag) rfl (fun _ => rfl)
    (Part.setKey_readStatus_moves src tag key)

theorem obeys_reset (src tag : Byte) (s : State) : Part.Obeys (.reset src tag) s := by
  refine Part.obeys_of_event rfl (Part.event_takes fun s _ => ?_)
  rcases Part.resetRequest_does src tag (s.linkAlive .station) with h | h
  · exact ⟨_, fun _ => .inl rfl, Part.Does.of_core (s.linkAlive_core .station) h⟩
  · exact ⟨_, fun _ => .inr rfl, Part.Does.of_core (s.linkAlive_core .station) h⟩

theorem obeys_mgmtUnknown (src : Byte) (payload : List Byte) (s : State) :
    Part.Obeys (.mgmtUnknown src payload) s := by
  refine Part.obeys_of_event rfl (Part.event_takes fun s hs => ?_)
  have hcore := s.linkAlive_core .station
  by_cases hk : knownRequest payload = true
  · obtain ⟨e, he⟩ := Part.takeRequest_does src payload (s := s.linkAlive .station) (by
      rw [hcore]
      exact Part.noneTurning_of_none hs)
    exact ⟨e, fun h => by simp [Instr.wf, hk] at h, Part.Does.of_core hcore he⟩
  · rw [Part.takeRequest_unknown src (by simpa using hk)]
    exact ⟨_, fun _ => rfl, Part.Does.of_core hcore (Part.unknownRequest_moves src payload _).does⟩

theorem obeys_txTripAssert (s : State) : Part.Obeys .txTripAssert s := by
  refine Part.obeys_of_run rfl fun p => ?_
  unfold Part.tripAsserted
  split
  · exact .inl rfl
  · exact Part.lineEvent_takes (c := .txTripAssert) (fun _ => rfl) Part.raiseTrip_moves _

theorem obeys_txTripRelease (s : State) : Part.Obeys .txTripRelease s := by
  refine Part.obeys_of_run rfl fun p => ?_
  unfold Part.tripReleased
  split
  · exact Part.lineEvent_takes (c := .txTripRelease) (fun _ => rfl) Part.endTrip_moves _
  · exact .inl rfl

theorem obeys_localAssert (s : State) : Part.Obeys .localAssert s :=
  Part.obeys_of_run rfl fun p => Part.lineEvent_takes (c := .localAssert) (fun _ => rfl) Part.Moves.refl p

theorem obeys_localRelease (s : State) : Part.Obeys .localRelease s := by
  refine Part.obeys_of_run rfl fun p => ?_
  unfold Part.localReleased
  split
  · exact Part.lineEvent_takes (c := .localRelease) (fun _ => rfl) Part.evaluateRelease_moves _
  · exact .inl rfl

/-- A well-formed command at the Station Port is no request where its frame is for the node 0 of another kind, or for
another node. -/
theorem obeys_stationFrame {f : Frame} {c : Instr} (s : State)
    (hc : c = .fieldBoundForward f ∨ c = .stationFrameRelay f ∨ c = .stationFrameDiscard f) : Part.Obeys c s := by
  rcases hc with rfl | rfl | rfl
  · refine Part.obeys_of_station rfl fun hw => ⟨rfl, fun hd => ?_⟩
    simp [Instr.wf, hd, nodeWithin] at hw
  · refine Part.obeys_of_station rfl fun hw => ⟨rfl, fun hd => ?_⟩
    simp [Instr.wf, hd, nodeWithin] at hw
  · refine Part.obeys_of_station rfl fun hw => ⟨rfl, fun _ hk => ?_⟩
    simp [Instr.wf, hk, FrameKind.code] at hw

/-- A command that is not a reset by a line or power-on, nor the evaluation itself, meets the part that a due
evaluation leaves and is taken by it. -/
theorem exec_takes (c : Instr) (s : State) (hcold : ∀ b, c ≠ .coldReset b) (hrelease : ∀ l, c ≠ .resetNRelease l)
    (heval : c ≠ .scheduleEvaluation) : Part.Obeys c s := by
  cases c with
  | coldReset b => exact absurd rfl (hcold b)
  | resetNRelease l => exact absurd rfl (hrelease l)
  | scheduleEvaluation => exact absurd rfl heval
  | blockTimerExpiry => exact obeys_blockTimerExpiry s
  | frameEnvelopeFail port bytes => exact obeys_frameEnvelopeFail port bytes s
  | writeBlock src tag n key data => exact obeys_writeBlock src tag n key data s
  | commit src tag => exact obeys_commit src tag s
  | abort src tag => exact obeys_abort src tag s
  | readStatus src tag key => exact obeys_readStatus src tag key s
  | reset src tag => exact obeys_reset src tag s
  | mgmtUnknown src payload => exact obeys_mgmtUnknown src payload s
  | txTripAssert => exact obeys_txTripAssert s
  | txTripRelease => exact obeys_txTripRelease s
  | localAssert => exact obeys_localAssert s
  | localRelease => exact obeys_localRelease s
  | fieldBoundForward f => exact obeys_stationFrame s (.inl rfl)
  | stationFrameRelay f => exact obeys_stationFrame s (.inr (.inl rfl))
  | stationFrameDiscard f => exact obeys_stationFrame s (.inr (.inr rfl))
  | sampleArrival src payload => exact Part.obeys_of_moves rfl (fun _ => rfl) (Part.receiveField_moves _)
  | stateFrame src payload => exact Part.obeys_of_moves rfl (fun _ => rfl) (Part.receiveField_moves _)
  | fieldFrameRelay f => exact Part.obeys_of_moves rfl (fun _ => rfl) (Part.receiveField_moves f)
  | fieldFrameDiscard f => exact Part.obeys_of_moves rfl (fun _ => rfl) (Part.receiveField_moves f)
  | readBlock src tag n => exact Part.obeys_of_heard rfl (fun _ => rfl) (Part.readBlock_moves src tag n)
  | change src tag p => exact Part.obeys_of_heard rfl (fun _ => rfl) (Part.request_moves src tag _ _)
  | stop src tag => exact Part.obeys_of_heard rfl (fun _ => rfl) (Part.request_moves src tag _ _)
  | recover src tag => exact Part.obeys_of_heard rfl (fun _ => rfl) (Part.recover_moves src tag)
  | readReadings src tag => exact Part.obeys_of_heard rfl (fun _ => rfl) (Part.readReadings_moves src tag)
  | readFaults src tag start => exact Part.obeys_of_heard rfl (fun _ => rfl) (Part.readFaults_moves src tag start)
  | clearFaults src tag => exact Part.obeys_of_heard rfl (fun _ => rfl) (Part.clearFaults_moves src tag)
  | time src payload => exact Part.obeys_of_kind (by decide) (fun _ => rfl) rfl
  | txState dst payload => exact Part.obeys_of_kind (by decide) (fun _ => rfl) rfl
  | stationElemCmdContactor dst src payload => exact Part.obeys_of_kind (by decide) (fun _ => rfl) rfl
  | stationElemCmdActuator dst src payload => exact Part.obeys_of_kind (by decide) (fun _ => rfl) rfl
  | broadcastElemCmd src payload => exact Part.obeys_of_kind (by decide) (fun _ => rfl) rfl
  | stationPower src payload => exact Part.obeys_of_kind (by decide) (fun _ => rfl) rfl
  | licenceWriteComplete => exact obeys_licenceWriteComplete s
  | panelGo sel => exact Part.obeys_of_moves rfl (fun _ => rfl) (Part.panelGo_moves sel)
  | panelStop => exact Part.obeys_of_moves rfl (fun _ => rfl) Part.panelStop_moves
  | silenceDeadline e => exact Part.obeys_of_moves rfl (fun _ => rfl) (Part.silenceExpires_moves e)
  | commandDeadline e => exact Part.obeys_of_moves rfl (fun _ => rfl) (Part.commandDue_moves e)
  | dwellEnd => exact Part.obeys_of_moves rfl (fun _ => rfl) Part.dwellExpires_moves
  | phaseDeadline => exact Part.obeys_of_moves rfl (fun _ => rfl) Part.phaseExpires_moves
  | settleDeadline => exact Part.obeys_of_moves rfl (fun _ => rfl) Part.settleExpires_moves
  | rampSend => exact Part.obeys_of_moves rfl (fun _ => rfl) Part.sendDue_moves
  | rampDeadline => exact Part.obeys_of_moves rfl (fun _ => rfl) Part.rampExpires_moves
  | linkDeadline port => exact Part.obeys_of_moves rfl (fun _ => rfl) (Part.linkExpires_moves port)
  | clockSecond => exact Part.obeys_of_moves rfl (fun _ => rfl) Part.secondExpires_moves
  | transmissionEnd port =>
    exact Part.obeys_of_moves rfl (fun _ => rfl) fun s => (s.endTransmission_sends port).moves

/-! ### The evaluation that is due, and the resets -/

/-- The evaluation itself as an event. -/
theorem Part.event_scheduleDue_moves {s : Part} (h : s.held = false) :
    (s.setRaised []).Moves (s.event Part.scheduleDue) := by
  unfold Part.event
  rw [if_neg (by simp [h])]
  exact (Part.scheduleDue_moves _).trans (Part.settle_drivePins_moves _)

theorem Part.evaluated_of_held {s : Part} (h : s.held = true) : s.evaluated = s := by
  unfold Part.evaluated
  split
  · exact Part.event_of_held h
  · rfl

theorem Part.evaluated_of_notDue {s : Part} (h : s.sched.evalDue = false) : s.evaluated = s := by
  rw [Part.evaluated, if_neg (by simp [h])]

theorem Part.evaluated_of_due {s : Part} (h : s.sched.evalDue = true) : s.evaluated = s.event Part.scheduleDue := by
  rw [Part.evaluated, if_pos h]

/-- R182: with the staged bank not READY the evaluation promotes nothing, and leaves the part to take its command. -/
theorem Part.event_scheduleDue_taking {s : Part} (h : s.held = false) (hs : s.tables.staged ≠ .ready) :
    (s.event Part.scheduleDue).taking := by
  have hstart : (s.setRaised []).scheduleDue.Moves (s.event Part.scheduleDue) := by
    unfold Part.event
    rw [if_neg (by simp [h])]
    exact Part.settle_drivePins_moves _
  have heval : ((s.setRaised []).setSched { s.sched with evalDue := false }).Moves (s.event Part.scheduleDue) :=
    (Part.evaluate_moves _).trans hstart
  have := heval.keeps (P := fun c => c.held = false ∧ c.evalDue = false ∧ c.tables.staged ≠ .ready)
    Core.Move.keeps_notDue ⟨h, rfl, hs⟩
  exact ⟨this.1, this.2.1⟩

/-- R137: what the release of RESET_N leaves. -/
theorem Part.resetReleased_moves {levels : Lines} {s : Part} (h : s.held = true) :
    ∃ p, carries 0 p ∧ Relation.ReflTransGen Core.Move { s.core with held := false, power := p }
      (s.resetReleased levels).core := by
  have hend : ∀ t : Part, t.core = { s.core with held := false } → ∃ p, carries 0 p ∧
      Relation.ReflTransGen Core.Move { s.core with held := false, power := p } t.endReset.core := by
    intro t ht
    have hshape : t.seq.mode.shape = s.seq.mode.shape := by rw [Part.shape_of_core ht, Part.core_shape]
    have hraised : t.raised = s.raised := congrArg Core.raised ht
    unfold Part.endReset
    split
    · obtain ⟨p, hp, e⟩ := t.raiseTrip.handPower_core 0
      refine ⟨p, hp, .single ?_⟩
      rw [e, Part.raiseTrip, Part.raise, Part.raiseUnder_core, ht, hraised]
      refine .raise { s.core with held := false, power := p } _ fun _ hc => ?_
      simpa only [Part.core_shape, hshape] using Part.situation_carrierUp hc
    · obtain ⟨p, hp, e⟩ := t.handPower_core 0
      exact ⟨p, hp, by rw [e, ht]⟩
  obtain ⟨p, hp, hm⟩ := hend ((s.setHeld false).setLines levels) rfl
  refine ⟨p, hp, ?_⟩
  unfold Part.resetReleased
  rw [if_pos h]
  exact hm.trans (Part.settle_drivePins_moves _).path

theorem Part.coldResetEvent_held (s : Part) :
    (s.coldResetEvent true).core = (s.coldReset true).core := by
  unfold Part.coldResetEvent
  rw [if_pos rfl, Part.drivePins, Part.setPins_core]

theorem Part.coldResetEvent_moves (s : Part) : (s.coldReset false).Moves (s.coldResetEvent false) := by
  unfold Part.coldResetEvent
  rw [if_neg (by simp)]
  exact (Part.endReset_moves rfl).trans (Part.settle_drivePins_moves _)

/-- R20, R180: time passes, or an expiry is queued. -/
theorem State.idle_core (s : State) : s.idle.part.core = s.part.core := by
  unfold State.idle
  split
  · rfl
  · split
    · exact Part.setUptime_core _ _
    · rfl
    · exact Part.core_of_outline (Part.nextFree_outline _)

end Sys2Proof.Machine
end

section
/-! PROOFS. What every step keeps: QUIET and Table Memory, INHIBIT, the block index and the licence region. -/

namespace Sys2Proof.Machine

/-! ### What every step keeps -/

/-- An invariant `P` of the part between two events, kept by every step: `Q` is what holds of it within an event, `E`
what holds right before an event's effect, once a due evaluation has been taken. -/
structure Core.Kept (P E Q : Core → Prop) : Prop where
  enter : ∀ {c : Core}, P c → c.held = false → Q { c with raised := [] }
  leave : ∀ {c : Core}, Q c → P c
  move : ∀ {c d : Core}, Core.Move c d → Q c → Q d
  ready : ∀ {s : Part}, P s.core → s.held = false → E s.evaluated.core
  effect : ∀ {c d : Core} {e : Effect}, E c → Q { c with raised := [] } → Core.Does e { c with raised := [] } d → Q d
  cold : ∀ {s : Part}, P s.core → P (s.coldReset true).core ∧ Q (s.coldReset false).core
  release : ∀ {c : Core} {p : Option Nat}, P c → c.held = true → carries 0 p → Q { c with held := false, power := p }

theorem Core.Kept.scheduleDue {P E Q : Core → Prop} (K : Core.Kept P E Q) {s : Part} (h : P s.core) :
    P (s.event Part.scheduleDue).core := by
  cases hh : s.held with
  | true => rwa [Part.event_of_held hh]
  | false => exact K.leave ((Part.event_scheduleDue_moves hh).keeps K.move (K.enter h hh))

theorem Core.Kept.evaluated {P E Q : Core → Prop} (K : Core.Kept P E Q) {s : Part} (h : P s.core) :
    P s.evaluated.core := by
  unfold Part.evaluated
  split
  · exact K.scheduleDue h
  · exact h

theorem Core.Kept.takes {P E Q : Core → Prop} (K : Core.Kept P E Q) {c : Instr} {s t : Part} (h : P s.core)
    (hE : s.held = false → E s.core) (ht : s.Takes c t) : P t.core := by
  rcases ht with e | ⟨hh, e, -, d, hd, hm⟩
  · rwa [e]
  · exact K.leave (Core.keeps_of_moves K.move hm (K.effect (hE hh) (K.enter h hh) hd))

theorem Core.Kept.released {P E Q : Core → Prop} (K : Core.Kept P E Q) {levels : Lines} {s : Part} (h : P s.core) :
    P (s.resetReleased levels).core := by
  cases hh : s.held with
  | true =>
    obtain ⟨p, hp, hm⟩ := Part.resetReleased_moves (levels := levels) hh
    exact K.leave (Core.keeps_of_moves K.move hm (K.release h hh hp))
  | false => rwa [Part.resetReleased, if_neg (by simp [hh])]

/-- An evaluation that finds the part held leaves it so. -/
theorem Part.evaluated_held {s : Part} (h : s.evaluated.held = false) : s.held = false := by
  by_contra hh
  rw [Part.evaluated_of_held (by simpa using hh)] at h
  exact hh h

/-- What a command that is no reset by a line or power-on, and not the evaluation itself, leaves. -/
theorem Core.Kept.obeys {P E Q : Core → Prop} (K : Core.Kept P E Q) {c : Instr} {s t : State} (h : P s.part.core)
    (ho : Part.Obeys c s) (ht : exec c s = .next t) : P t.part.core := by
  obtain ⟨p, hp, htakes⟩ := ho
  obtain rfl : { s with part := p } = t := Host.Outcome.next.inj (hp.symm.trans ht)
  exact K.takes (K.evaluated h) (fun hh => K.ready h (Part.evaluated_held hh)) htakes

theorem Core.Kept.exec {P E Q : Core → Prop} (K : Core.Kept P E Q) {c : Instr} {s t : State} (h : P s.part.core)
    (ht : exec c s = .next t) : P t.part.core := by
  by_cases hspecial : (∃ b, c = .coldReset b) ∨ (∃ l, c = .resetNRelease l) ∨ c = .scheduleEvaluation
  · rcases hspecial with ⟨b, rfl⟩ | ⟨l, rfl⟩ | rfl
    · obtain rfl := Host.Outcome.next.inj ht
      cases b with
      | true =>
        show P (s.part.coldResetEvent true).core
        rw [Part.coldResetEvent_held]
        exact (K.cold h).1
      | false => exact K.leave (s.part.coldResetEvent_moves.keeps K.move (K.cold h).2)
    · obtain rfl := Host.Outcome.next.inj ht
      exact K.released (K.evaluated h)
    · obtain rfl := Host.Outcome.next.inj ht
      exact K.scheduleDue h
  · simp only [not_or, not_exists] at hspecial
    exact K.obeys h (exec_takes c s hspecial.1 hspecial.2.1 hspecial.2.2) ht

theorem Core.Kept.step {P E Q : Core → Prop} (K : Core.Kept P E Q) {s t : State} (h : P s.part.core)
    (ht : step s = .next t) : P t.part.core := by
  unfold Machine.step at ht
  split at ht
  next =>
    obtain rfl := Host.Outcome.next.inj ht
    rwa [State.idle_core]
  next i rest _ => exact K.exec (s := { s with pending := rest }) h ht

/-! ### QUIET and Table Memory -/

theorem activeBank_towerCount (m : Memory) : (activeBank m).towerCount = (m.read 5120).toNat := rfl

/-- R12: with a tower count of 0 no tower is installed, and QUIET holds. -/
theorem quietUnder_of_none {m : Memory} (h : m.read 5120 = 0) (runs : Vector Nat 12) : quietUnder m runs = true := by
  have hcount : (activeBank m).towerCount = 0 := by rw [activeBank_towerCount, h]; rfl
  simp [quietUnder, Bank.installedTowers, Bank.installed, hcount]

/-- R5: what a cold reset leaves of Table Memory has the canonical form, and reads 0 outside the licence region. -/
theorem Tables.coldMemory_spec {t : Tables} (h : t.mem.wf = true) :
    t.coldMemory.wf = true ∧ ∀ a, 256 ≤ a → t.coldMemory.read a = 0 := by
  unfold Tables.coldMemory
  have key : ∀ m : Memory, m.wf = true → m.licenceOnly.wf = true ∧ ∀ a, 256 ≤ a → m.licenceOnly.read a = 0 := by
    intro m hm
    obtain ⟨hwf, hread⟩ := Memory.licenceOnly_spec hm
    exact ⟨hwf, fun a ha => by rw [hread, if_neg (by omega)]⟩
  split
  · exact key _ (Memory.wf_writeBytes _ _ _ h)
  · exact key _ h

theorem Core.Does.keeps_quietSound {e : Effect} {c d : Core} (h : c.QuietSound) (hd : Core.Does e c d) :
    d.QuietSound := by
  obtain ⟨hm, hq⟩ := h
  cases hd with
  | nothing => exact ⟨hm, hq⟩
  | @write _ n t hn hw =>
    obtain ⟨hwf, hread⟩ := hw hm
    refine ⟨hwf, hq.trans (quietUnder_congr ?_ _).symm⟩
    rw [activeBank_towerCount, activeBank_towerCount, hread 5120 (by omega)]
  | commit => exact ⟨hm, hq⟩
  | licenceDone => exact ⟨hm, hq⟩
  | warmReset => exact ⟨hm, rfl⟩
  | block => exact ⟨hm, hq⟩

theorem Core.quietSound_kept : Core.Kept Core.QuietSound (fun _ => True) Core.QuietSound where
  enter h _ := h
  leave h := h
  move m h := m.keeps_quietSound h
  ready _ _ := trivial
  effect _ h hd := hd.keeps_quietSound h
  cold {s} h := by
    obtain ⟨hwf, hread⟩ := Tables.coldMemory_spec (t := s.tables) h.1
    have hq := quietUnder_of_none (hread 5120 (by omega)) (Vector.replicate 12 0)
    exact ⟨⟨hwf, hq.symm⟩, ⟨hwf, hq.symm⟩⟩
  release h _ _ := h

/-! ### The evaluation that is due -/

theorem Core.dueSound_of_notDue {c : Core} (h : c.evalDue = false) : c.DueSound := fun h' => by
  rw [h] at h'
  exact absurd h' (by simp)

/-- No effect but a promotion, which is none, makes an evaluation due. -/
theorem Core.Does.evalDue {e : Effect} {c d : Core} (hd : Core.Does e c d) : d.evalDue = c.evalDue := by
  cases hd <;> rfl

theorem Core.dueSound_kept : Core.Kept Core.DueSound (fun c => c.evalDue = false) Core.DueSound where
  enter h _ := h
  leave h := h
  move m h := m.keeps_dueSound h
  ready {s} h hh := by
    by_cases hdue : s.sched.evalDue = true
    · rw [Part.evaluated_of_due hdue]
      exact (Part.event_scheduleDue_taking hh (by rw [show s.tables.staged = .clean from h hdue]; simp)).2
    · rwa [Part.evaluated_of_notDue (by simpa using hdue), Part.core_evalDue, ← Bool.not_eq_true]
  effect h _ hd := Core.dueSound_of_notDue (hd.evalDue.trans h)
  cold _ := ⟨fun _ => rfl, fun _ => rfl⟩
  release h _ _ := h

/-- Settles O58: QUIET and Table Memory, and the evaluation that is due, are kept by every move inside an event and by
every effect. -/
theorem everyStepKeepsQuietAndMemory : Obligations.EveryStepKeepsQuietAndMemory :=
  ⟨fun _ _ h ht => Core.quietSound_kept.step h ht, fun _ _ h ht => Core.dueSound_kept.step h ht⟩

/-! ### INHIBIT, the level and the waiting POWER frame -/

/-- R145 between two events, of the core. -/
structure Core.InhibitSound (c : Core) : Prop where
  inhibit : c.shape.InhibitAsks c.ramp.inhibit
  zero : c.ramp.inhibit = true → c.ramp.AtZero
  power : carries c.ramp.level c.power
  held : c.held = true → c.shape = .stopped

theorem Mode.shape_eq_stopped {m : Mode} : m.shape = .stopped ↔ m = .stopped := by
  cases m <;> simp [Mode.shape]

theorem Part.inhibitSound_iff (s : Part) : s.InhibitSound ↔ s.core.InhibitSound := by
  have hasks : (match s.seq.mode with
      | .stopped | .halted => s.ramp.inhibit = true
      | .inPattern => s.ramp.inhibit = false
      | .changing c =>
        match c.phase with
        | .muting | .switching => s.ramp.inhibit = true
        | .rampToTrim | .trimming | .verifying | .rampFinal => s.ramp.inhibit = false
        | .rampDown | .presetting => True) ↔ s.core.shape.InhibitAsks s.core.ramp.inhibit := by
    rw [Part.core_shape, Part.core_ramp]
    cases s.seq.mode with
    | changing c =>
      obtain ⟨_, _, _, _, _, phase, _⟩ := c
      cases phase <;> exact Iff.rfl
    | _ => exact Iff.rfl
  constructor
  · rintro ⟨h1, h2, h3, h4⟩
    exact ⟨hasks.mp h1, h2, h3, fun h => by rw [Part.core_shape, Mode.shape_eq_stopped]; exact h4 h⟩
  · rintro ⟨h1, h2, h3, h4⟩
    exact ⟨hasks.mpr h1, h2, h3, fun h => by rw [← Mode.shape_eq_stopped, ← Part.core_shape]; exact h4 h⟩

theorem RampEngine.cold_silenced : Part.cold.ramp.Silenced := ⟨rfl, rfl, rfl, rfl⟩

theorem Core.Does.keeps_sound {e : Effect} {c d : Core} (h : c.Sound) (hd : Core.Does e c d) : d.Sound := by
  obtain ⟨hh, hi, hz, hp, ht⟩ := h
  cases hd with
  | warmReset => exact ⟨rfl, rfl, fun _ => RampEngine.cold_silenced.2, .inl rfl, fun _ hr => by simp at hr⟩
  | _ => exact ⟨hh, hi, hz, hp, ht⟩

theorem Core.inhibitSound_kept : Core.Kept Core.InhibitSound (fun _ => True) Core.Sound where
  enter h hh := ⟨hh, h.inhibit, h.zero, h.power, fun _ hr => by simp at hr⟩
  leave h := ⟨h.inhibit, h.zero, h.power, fun hh => by simp [h.running] at hh⟩
  move m h := m.keeps_sound h
  ready _ _ := trivial
  effect _ h hd := hd.keeps_sound h
  cold _ :=
    ⟨⟨rfl, fun _ => RampEngine.cold_silenced.2, .inl rfl, fun _ => rfl⟩,
      ⟨rfl, rfl, fun _ => RampEngine.cold_silenced.2, .inl rfl, fun _ hr => absurd hr List.not_mem_nil⟩⟩
  release {c p} h hh hp := by
    have hstopped := h.held hh
    have hon : c.ramp.inhibit = true := by simpa only [hstopped, Shape.InhibitAsks] using h.inhibit
    exact ⟨rfl, h.inhibit, h.zero, by simpa only [(h.zero hon).1] using hp,
      fun _ _ _ _ _ hs => by simp [hstopped] at hs⟩

/-- Settles O59: the reactions to a raise of class B are the point: within an event, a reversion that owes one made
with the carrier up has INHIBIT released (Core.Sound.turning), so that R159 may leave the array in pattern. -/
theorem everyStepKeepsInhibitSound : Obligations.EveryStepKeepsInhibitSound := fun s t h ht =>
  (Part.inhibitSound_iff t.part).mpr (Core.inhibitSound_kept.step ((Part.inhibitSound_iff s.part).mp h) ht)

/-! ### The block index and the licence region -/

/-- A fact about Table Memory and the Block Timer, through a well-formed command that is no cold reset: it is kept
where the command's effects keep it. -/
theorem exec_keeps_tables {F : Tables → BlockTimer → Prop}
    (hmove : ∀ {c d : Core}, Core.Move c d → F c.tables c.timer → F d.tables d.timer) {c : Instr} {s t : State}
    (hw : c.wf = true) (hcold : ∀ b, c ≠ .coldReset b)
    (heffect : ∀ {e : Effect} {x y : Core}, Instr.mayDo c e → Core.Does e x y → F x.tables x.timer →
      F y.tables y.timer)
    (h : F s.part.tables s.part.timer) (ht : exec c s = .next t) : F t.part.tables t.part.timer := by
  have hdue : F (s.part.event Part.scheduleDue).tables (s.part.event Part.scheduleDue).timer := by
    cases hh : s.part.held with
    | true => rwa [Part.event_of_held hh]
    | false =>
      exact (Part.event_scheduleDue_moves hh).keeps (P := fun c => F c.tables c.timer) (fun m => hmove m) h
  have heval : F s.part.evaluated.tables s.part.evaluated.timer := by
    unfold Part.evaluated
    split
    · exact hdue
    · exact h
  by_cases hspecial : (∃ l, c = .resetNRelease l) ∨ c = .scheduleEvaluation
  · rcases hspecial with ⟨l, rfl⟩ | rfl
    · obtain rfl := Host.Outcome.next.inj ht
      show F (s.part.evaluated.resetReleased l).tables (s.part.evaluated.resetReleased l).timer
      cases hh : s.part.evaluated.held with
      | true =>
        obtain ⟨p, -, hm⟩ := Part.resetReleased_moves (levels := l) hh
        exact Core.keeps_of_moves (P := fun c => F c.tables c.timer) (fun m => hmove m) hm heval
      | false => rwa [Part.resetReleased, if_neg (by simp [hh])]
    · obtain rfl := Host.Outcome.next.inj ht
      exact hdue
  · simp only [not_or, not_exists] at hspecial
    obtain ⟨p, hp, htakes⟩ := exec_takes c s hcold hspecial.1 hspecial.2
    obtain rfl : { s with part := p } = t := Host.Outcome.next.inj (hp.symm.trans ht)
    rcases htakes with e | ⟨-, e, he, d, hd, hm⟩
    · show F p.core.tables p.core.timer
      rw [e]
      exact heval
    · exact Core.keeps_of_moves (P := fun c => F c.tables c.timer) (fun m => hmove m) hm (heffect (he hw) hd heval)

/-- R20: no effect but a block start and a warm reset changes the block index. -/
theorem exec_timer {c : Instr} {s t : State} (hw : c.wf = true) (hcold : ∀ b, c ≠ .coldReset b)
    (hc : ∀ e, Instr.mayDo c e → e ≠ .block ∧ e ≠ .warmReset) (ht : exec c s = .next t) :
    t.part.timer = s.part.timer :=
  exec_keeps_tables (F := fun _ x => x = s.part.timer) (fun m h => m.keeps_timer.trans h) hw hcold
    (fun he hd h => by
      cases hd with
      | block => exact absurd rfl (hc _ he).1
      | warmReset => exact absurd rfl (hc _ he).2
      | _ => exact h) rfl ht

/-- R5: no effect but a write to it changes the licence region. -/
theorem exec_licence {c : Instr} {s t : State} (hw : c.wf = true) (hcold : ∀ b, c ≠ .coldReset b)
    (hm : s.part.tables.mem.wf = true) (hc : ∀ e n, Instr.mayDo c e → e = .write n → 3 < n)
    (ht : exec c s = .next t) : ∀ a, a < 256 → t.part.tables.mem.read a = s.part.tables.mem.read a :=
  (exec_keeps_tables (F := fun x _ => s.part.tables.mem.SameLicence x.mem) (fun m h => m.keeps_licence h) hw hcold
    (fun he hd h => by
      cases hd with
      | @write _ n x hn hmem =>
        obtain ⟨hwf, hread⟩ := hmem h.1
        have := hc _ n he rfl
        exact ⟨hwf, fun a ha => (hread a (by omega)).trans (h.2 a ha)⟩
      | _ => exact h) ⟨hm, fun _ _ => rfl⟩ ht).2

theorem Effect.nothing_leaves_timer {e : Effect} (h : e = .nothing) : e ≠ .block ∧ e ≠ .warmReset := by
  simp [h]

theorem Effect.ne_write {e : Effect} (h : e = .nothing ∨ e = .commit ∨ e = .licenceDone ∨ e = .warmReset ∨ e = .block)
    {n : Nat} (hn : e = .write n) : 3 < n := by
  simp [hn] at h

/-- Settles O60: the effects of each well-formed command are few, and of them a block start and the resets alone touch
the block index, a write and a cold reset alone the licence region. -/
theorem onlyTheirOwnCommandsChangeIndexAndLicence : Obligations.OnlyTheirOwnCommandsChangeIndexAndLicence := by
  refine ⟨fun c s t hw ht => ?_, fun c s t hw hm ht => ?_⟩
  · cases c with
    | coldReset b => trivial
    | reset src tag => trivial
    | blockTimerExpiry => trivial
    | writeBlock src tag n key data =>
      refine exec_timer hw (fun _ => nofun) (fun e he => ?_) ht
      rcases he with rfl | rfl <;> exact ⟨nofun, nofun⟩
    | commit src tag =>
      refine exec_timer hw (fun _ => nofun) (fun e he => ?_) ht
      obtain rfl : e = .commit := he
      exact ⟨nofun, nofun⟩
    | licenceWriteComplete =>
      refine exec_timer hw (fun _ => nofun) (fun e he => ?_) ht
      obtain rfl : e = .licenceDone := he
      exact ⟨nofun, nofun⟩
    | _ => exact exec_timer hw (fun _ => nofun) (fun _ he => Effect.nothing_leaves_timer he) ht
  · cases c with
    | coldReset b => trivial
    | writeBlock src tag n key data =>
      intro hn
      refine exec_licence hw (fun _ => nofun) hm (fun e k he hk => ?_) ht
      rcases he with rfl | rfl
      · exact nomatch hk
      · exact Effect.write.inj hk ▸ hn
    | commit src tag =>
      exact exec_licence hw (fun _ => nofun) hm (fun _ _ he hk => Effect.ne_write (.inr (.inl he)) hk) ht
    | licenceWriteComplete =>
      exact exec_licence hw (fun _ => nofun) hm (fun _ _ he hk => Effect.ne_write (.inr (.inr (.inl he))) hk) ht
    | reset src tag =>
      refine exec_licence hw (fun _ => nofun) hm (fun _ _ he hk => Effect.ne_write ?_ hk) ht
      exact he.imp_right fun h => .inr (.inr (.inl h))
    | blockTimerExpiry =>
      exact exec_licence hw (fun _ => nofun) hm (fun _ _ he hk => Effect.ne_write (.inr (.inr (.inr (.inr he)))) hk) ht
    | _ => exact exec_licence hw (fun _ => nofun) hm (fun _ _ he hk => Effect.ne_write (.inl he) hk) ht

/-! ### Every command answers -/

theorem State.run_of_held {s : State} {op : Part → Part} (h : s.part.held = true)
    (hop : ∀ p : Part, p.held = true → op p = p) : s.run op = .next s := by
  rw [State.run, State.runNow, Part.evaluated_of_held h, hop _ h]

/-- R182: a command that meets the evaluation's outcome does the same before it. -/
theorem State.run_evaluated {s t : State} (op : Part → Part) (hp : t.pending = s.pending)
    (ht : t.part = s.part.evaluated) (hd : t.part.sched.evalDue = false) : s.run op = t.run op := by
  have : t.part.evaluated = s.part.evaluated := by rw [Part.evaluated_of_notDue hd, ht]
  simp only [State.run, State.runNow, this, hp]

/-- Settles O2, by the form of every command: an event on the part that a due evaluation leaves. -/
theorem everyCommandAnswersANextState : Obligations.EveryCommandAnswersANextState := by
  refine ⟨fun c s => ?_, fun c s h => ?_, fun c s hh hd hs => ?_⟩
  · cases c <;> exact ⟨_, rfl, rfl⟩
  · cases c with
    | coldReset b => trivial
    | resetNRelease l => trivial
    | txTripAssert => trivial
    | txTripRelease => trivial
    | localAssert => trivial
    | localRelease => trivial
    | scheduleEvaluation =>
      show Host.Outcome.next { s with part := s.part.event _ } = _
      rw [Part.event_of_held h]
    | _ => exact State.run_of_held h fun p hp => Part.event_of_held hp
  · have hpart : s.part.event Part.scheduleDue = s.part.evaluated := (Part.evaluated_of_due hd).symm
    have htaking := Part.event_scheduleDue_taking hh hs
    refine ⟨{ s with part := s.part.event Part.scheduleDue }, rfl, rfl, htaking, ?_⟩
    cases c with
    | coldReset b => trivial
    | scheduleEvaluation => trivial
    | _ => exact State.run_evaluated _ rfl hpart htaking.2

end Sys2Proof.Machine
end

section
/-! PROOFS. The reset state, and READ_BLOCK and WRITE_BLOCK. -/

namespace Sys2Proof.Machine

/-! ### The reset state -/

/-- Settles O5: each value by the definition of the reset state, the invariants by evaluation of the bounded ones. -/
theorem resetStateHasTheColdResetValues : Obligations.ResetStateHasTheColdResetValues := by
  have htables : State.reset.part.QuietSound ∧ State.reset.part.Bounded ∧ State.reset.part.StoreSound ∧
      State.reset.part.DueSound ∧ State.reset.part.faults.distinct := by decide
  obtain ⟨hquiet, hbounded, hstore, hdue, hdistinct⟩ := htables
  have hinhibit : State.reset.part.InhibitSound := ⟨rfl, fun _ => ⟨rfl, rfl, rfl⟩, .inl rfl, fun _ => rfl⟩
  have hpins : State.reset.part.PinsSound := by
    refine ⟨?_, ?_⟩ <;> simp [State.reset, Part.cold]
  unfold Obligations.ResetStateHasTheColdResetValues
  refine ⟨rfl, fun _ => rfl, rfl, rfl, rfl, rfl, rfl, rfl, rfl, rfl, rfl, rfl, by decide, by decide, by decide, rfl,
    rfl, rfl, rfl, rfl, rfl, rfl, rfl, rfl, rfl, rfl, rfl, rfl, rfl, by decide, rfl, rfl, rfl, rfl, rfl, rfl, rfl, rfl, rfl,
    rfl, rfl, rfl, rfl, rfl, rfl, rfl, rfl, rfl, rfl, rfl, rfl, rfl, rfl, rfl, rfl, rfl, rfl, hquiet, hbounded,
    hstore, hdue, hdistinct, hinhibit, hpins, rfl⟩

/-! ### Requests that are only answered -/

/-- An event of a command that meets the part as it stands. -/
theorem State.run_event {s : State} {op : Part → Part} (h : s.part.taking) :
    s.run (Part.event op) = .next { s with part := (op (s.part.setRaised [])).settle.drivePins } := by
  rw [State.run_of_taking h, State.runNow, Part.event, if_neg (by simp [h.1])]

/-- An event that owes nothing, of a command that meets the part as it stands. -/
theorem State.run_event_of_none {s : State} {op : Part → Part} (h : s.part.taking) {p : Part}
    (hop : op (s.part.setRaised []) = p.setRaised []) :
    s.run (Part.event op) = .next { s with part := p.closed } := by
  rw [State.run_of_taking h, State.runNow, Part.event_of_none h.1 (hop ▸ rfl), hop]
  rfl

/-! ### READ_BLOCK and WRITE_BLOCK -/

theorem populated_iff (n : Nat) : populated n = true ↔
    n ≤ 3 ∨ (16 ≤ n ∧ n ≤ 58) ∨ (80 ≤ n ∧ n ≤ 122) ∨ (124 ≤ n ∧ n ≤ 126) := by
  simp only [populated, Bool.or_eq_true, Bool.and_eq_true, decide_eq_true_eq]
  tauto

theorem within_iff (lo hi n : Nat) : within lo hi n = true ↔ lo ≤ n ∧ n ≤ hi := by
  simp only [within, Bool.and_eq_true, decide_eq_true_eq]

theorem Part.readBlock_eq (src tag n : Byte) (s : Part) : s.readBlock src tag n =
    s.replied
      (if n.toNat ≤ 3 ∨ (16 ≤ n.toNat ∧ n.toNat ≤ 58) ∨ (80 ≤ n.toNat ∧ n.toNat ≤ 122) ∨
          (124 ≤ n.toNat ∧ n.toNat ≤ 126) then
        mgmtReply src tag 1 0 ((List.range 64).map fun k => s.tables.mem.read (64 * n.toNat + k))
      else mgmtReply src tag 1 2 []) := by
  unfold Part.readBlock
  by_cases h : populated n.toNat = true
  · rw [if_pos h, if_pos ((populated_iff _).mp h), Part.answer_eq, Memory.readBytes_eq]
    rfl
  · rw [if_neg h, if_neg (fun h' => h ((populated_iff _).mpr h')), Part.answer_eq]
    rfl

theorem exec_readBlock {src tag n : Byte} {s : State} (h : s.part.taking) :
    exec (.readBlock src tag n) s = .next
      { s with
        part := s.part.answered
          (if n.toNat ≤ 3 ∨ (16 ≤ n.toNat ∧ n.toNat ≤ 58) ∨ (80 ≤ n.toNat ∧ n.toNat ≤ 122) ∨
              (124 ≤ n.toNat ∧ n.toNat ≤ 126) then
            mgmtReply src tag 1 0 ((List.range 64).map fun k => s.part.tables.mem.read (64 * n.toNat + k))
          else mgmtReply src tag 1 2 []) } :=
  State.run_event_of_none h (p := s.part.stationHeard.replied _) (Part.readBlock_eq src tag n _)

/-- The part with LICENCE_KEY sampled. -/
def Part.keyed (s : Part) (key : Bool) : Part := { s with lines := { s.lines with licenceKey := key } }

/-- A WRITE_BLOCK whose decision on the part, heard and with the key sampled, comes to a reply on `q`. -/
theorem exec_writeBlock {src tag n : Byte} {key : Bool} {data : List Byte} {s : State} (h : s.part.taking)
    {q : Part} {f : Frame}
    (hw : ((s.part.keyed key).stationHeard.setRaised []).writeBlock src tag n data =
      (q.stationHeard.replied f).setRaised []) :
    exec (.writeBlock src tag n key data) s = .next { s with part := q.answered f } :=
  State.run_event_of_none (op := fun s => ((s.linkAlive .station).setKey key).writeBlock src tag n data) h
    (p := q.stationHeard.replied f) hw

theorem Part.writeBlock_refused {src tag n : Byte} {data : List Byte} {s : Part} (hlen : data.length = 64) {r : Result}
    (hr : s.writeRefusal n.toNat = some r) :
    s.writeBlock src tag n data = s.replied (mgmtReply src tag 2 r.code []) := by
  rw [Part.writeBlock, if_neg (not_not.mpr hlen)]
  simp only [hr]
  exact Part.answer_eq ..

theorem Part.writeBlock_accepted {src tag n : Byte} {data : List Byte} {s : Part} (hlen : data.length = 64)
    (hr : s.writeRefusal n.toNat = none) :
    s.writeBlock src tag n data = (s.acceptWrite n.toNat data).replied (mgmtReply src tag 2 0 []) := by
  rw [Part.writeBlock, if_neg (not_not.mpr hlen)]
  simp only [hr]
  exact Part.answer_eq ..

theorem exec_writeBlock_refused {src tag n : Byte} {key : Bool} {data : List Byte} {s : State} (h : s.part.taking)
    (hlen : data.length = 64) {r : Result} (hr : (s.part.keyed key).writeRefusal n.toNat = some r) :
    exec (.writeBlock src tag n key data) s = .next
      { s with part := (s.part.keyed key).answered (mgmtReply src tag 2 r.code []) } := by
  refine exec_writeBlock h ?_
  exact Part.writeBlock_refused (s := (s.part.keyed key).stationHeard.setRaised []) hlen hr

theorem Part.writeRefusal_unpopulated {s : Part} {n : Nat} (h : populated n = false) :
    s.writeRefusal n = some .range := by
  simp [Part.writeRefusal, h]

theorem Part.writeRefusal_active {s : Part} {n : Nat} (h : 80 ≤ n ∧ n ≤ 122) :
    s.writeRefusal n = some .activeBank := by
  have hp : populated n = true := (populated_iff n).mpr (by omega)
  simp [Part.writeRefusal, hp, (within_iff 80 122 n).mpr h]

theorem Part.writeRefusal_protected {s : Part} {n : Nat} (h : n ≤ 3) (hk : s.lines.licenceKey = false) :
    s.writeRefusal n = some .isProtected := by
  have hp : populated n = true := (populated_iff n).mpr (by omega)
  have hw : within 80 122 n = false := by rw [← Bool.not_eq_true, within_iff]; omega
  simp [Part.writeRefusal, hp, hw, h, hk]

theorem Part.writeRefusal_busy {s : Part} {n : Nat} (h : n ≤ 3) (hk : s.lines.licenceKey = true)
    (hb : s.tables.licenceWrite.isSome = true) : s.writeRefusal n = some .busy := by
  have hp : populated n = true := (populated_iff n).mpr (by omega)
  have hw : within 80 122 n = false := by rw [← Bool.not_eq_true, within_iff]; omega
  simp [Part.writeRefusal, hp, hw, h, hk, hb]

theorem Part.writeRefusal_licence {s : Part} {n : Nat} (h : n ≤ 3) (hk : s.lines.licenceKey = true)
    (hb : s.tables.licenceWrite = none) : s.writeRefusal n = none := by
  have hp : populated n = true := (populated_iff n).mpr (by omega)
  have hw : within 80 122 n = false := by rw [← Bool.not_eq_true, within_iff]; omega
  simp [Part.writeRefusal, hp, hw, h, hk, hb]

theorem Part.writeRefusal_other {s : Part} {n : Nat} (h : (16 ≤ n ∧ n ≤ 58) ∨ (124 ≤ n ∧ n ≤ 126)) :
    s.writeRefusal n = none := by
  have hp : populated n = true := (populated_iff n).mpr (by omega)
  have hw : within 80 122 n = false := by rw [← Bool.not_eq_true, within_iff]; omega
  have h3 : ¬n ≤ 3 := by omega
  simp [Part.writeRefusal, hp, hw, h3]

/-- Settles O8: READ_BLOCK by the populated blocks, WRITE_BLOCK by its four checks, one lemma for each. -/
theorem blockAccessIsCheckedAndAnswered : Obligations.BlockAccessIsCheckedAndAnswered := by
  refine ⟨fun src tag n s h => exec_readBlock h, fun src tag n key data s h hlen => ⟨fun hn => ?_, fun h1 h2 => ?_,
    fun h3 hk => ?_, fun h3 hk hb => ?_⟩⟩
  · refine exec_writeBlock_refused (r := .range) h hlen (Part.writeRefusal_unpopulated ?_)
    rw [← Bool.not_eq_true, populated_iff]
    omega
  · exact exec_writeBlock_refused (r := .activeBank) h hlen (Part.writeRefusal_active ⟨h1, h2⟩)
  · exact exec_writeBlock_refused (r := .isProtected) h hlen (Part.writeRefusal_protected h3 hk)
  · exact exec_writeBlock_refused (r := .busy) h hlen (Part.writeRefusal_busy h3 hk (Option.isSome_iff_ne_none.mpr hb))

/-! ### Accepted writes -/

theorem patOf_eq_none {n : Nat} (h : 4 ≤ n) : patOf n = none := dif_neg (by omega)

/-- An accepted WRITE_BLOCK, by what it leaves of the part. -/
theorem exec_writeBlock_accepted {src tag n : Byte} {key : Bool} {data : List Byte} {s : State} (h : s.part.taking)
    (hlen : data.length = 64) (hr : (s.part.keyed key).writeRefusal n.toNat = none) {q : Part}
    (hw : ((s.part.keyed key).stationHeard.setRaised []).acceptWrite n.toNat data = q.stationHeard.setRaised []) :
    exec (.writeBlock src tag n key data) s = .next { s with part := q.answered (mgmtReply src tag 2 0 []) } := by
  have hr' : ((s.part.keyed key).stationHeard.setRaised []).writeRefusal n.toNat = none := hr
  have hq : (q.stationHeard.setRaised []).replied (mgmtReply src tag 2 0 []) =
      (q.stationHeard.replied (mgmtReply src tag 2 0 [])).setRaised [] := rfl
  exact exec_writeBlock h ((Part.writeBlock_accepted hlen hr').trans ((congrArg (Part.replied · _) hw).trans hq))

theorem Memory.replaced_writeBytes {m : Memory} (h : m.wf = true) (n : Nat) {data : List Byte}
    (hlen : data.length = 64) : m.replaced (m.writeBytes (blockAddr n) data) n data :=
  ⟨Memory.wf_writeBytes data m _ h, fun a => by rw [Memory.read_writeBytes a data m _ h, hlen]; rfl⟩

/-- R182: with the schedule disabled, an evaluation finds the in-force pattern and clears the owed flag. -/
theorem Part.evaluate_disabled {s : Part} (h : s.bank.scheduleEnable = false) :
    s.evaluate = s.setSched
      { s.sched with
        owed := false
        inForce := match s.clock.time with
          | none => none
          | some c => s.tables.mem.inForce c } := by
  have h' : s.findInForce.bank.scheduleEnable = false := h
  rw [Part.evaluate, Part.scheduleActs, if_pos (by simp [h']), Part.findInForce]
  cases s.clock.time <;> rfl

/-- Settles O9: a staged block is stored as it is; a schedule block lies outside the active bank, so the schedule stays
disabled and the evaluation raises no request. -/
theorem acceptedWriteReplacesTheBlock : Obligations.AcceptedWriteReplacesTheBlock := by
  refine ⟨fun src tag n key data s h hlen hm h1 h2 => ⟨_, Memory.replaced_writeBytes hm n.toNat hlen, ?_⟩,
    fun src tag n key data s h hlen hm h1 h2 hoff => ⟨_, Memory.replaced_writeBytes hm n.toNat hlen, ?_⟩⟩
  · refine exec_writeBlock_accepted h hlen (Part.writeRefusal_other (.inl ⟨h1, h2⟩)) ?_
    rw [Part.acceptWrite, patOf_eq_none (by omega)]
    exact if_pos (by omega)
  · refine exec_writeBlock_accepted h hlen (Part.writeRefusal_other (.inr ⟨h1, h2⟩)) ?_
    rw [Part.acceptWrite, patOf_eq_none (by omega)]
    refine (if_neg (by omega)).trans (Part.evaluate_disabled ?_)
    obtain ⟨-, hread⟩ := Memory.writeBytes_frame (n := n.toNat) hlen hm
    have hcell : (s.part.tables.mem.writeBytes (blockAddr n.toNat) data).read 5165 = s.part.tables.mem.read 5165 :=
      hread 5165 (by omega)
    exact (congrArg (fun b : Byte => b.toNat == 1) hcell).trans hoff

end Sys2Proof.Machine
end

section
/-! PROOFS. The end of a reset. -/

namespace Sys2Proof.Machine

/-! ### The end of a reset (R137, R147) -/

/-- R137, R172: a Station Port without a transmission that sends POWER 0. -/
def Part.sendingZero (s : Part) : Part :=
  { s with
    station := { s.station with power := none, sending := some { dst := 24, src := 0, kind := 5, payload := [0, 0] } } }

theorem Part.handPower_zero {s : Part} (hs : s.station.sending = none) (hr : s.station.replies = []) :
    s.handPower 0 = s.sendingZero := by
  simp only [Part.handPower, Part.stationKick, Part.setStation, hs, Part.stationChoice, hr, Nat.zero_min,
    Part.sendingZero]
  rfl

/-- R137: a reset that ends with TX_TRIP released. -/
theorem Part.endReset_released {s : Part} (hraised : s.raised = []) (hs : s.station.sending = none)
    (hr : s.station.replies = []) (ht : s.lines.txTrip = false) :
    s.endReset.settle.drivePins = s.sendingZero.closed := by
  have h : s.endReset = s.sendingZero := by
    rw [Part.endReset, if_neg (by simp [ht]), Part.handPower_zero hs hr]
  have hraised' : s.sendingZero.raised = [] := hraised
  rw [h, Part.settle_of_none hraised', Part.drivePins_of_none hraised']

/-- R147: in STOPPED, a reset that ends with TX_TRIP asserted raises it with class D, which asks for no reaction. -/
theorem Part.endReset_asserted {s : Part} (hraised : s.raised = []) (hm : s.seq.mode = .stopped)
    (hs : s.station.sending = none) (hr : s.station.replies = []) (ht : s.lines.txTrip = true)
    (hroom : s.room .txTrip .nothing) :
    s.endReset.settle.drivePins = (s.sendingZero.recorded .txTrip .nothing .d).closed := by
  have hcls : s.tripClass = .d := by rw [Part.tripClass, hm]
  have h : s.endReset = (s.sendingZero.recorded .txTrip .nothing .d).setRaised
      [{ cls := .d, kind := .txTrip, situation := s.situation, pats := s.changePats }] := by
    rw [Part.endReset, if_pos ht, Part.raiseTrip, hcls, Part.raise_eq hroom, hraised]
    exact Part.handPower_zero hs hr
  rw [h, Part.settle_of_d (by simp), Part.drivePins_of_none rfl]
  rfl

/-- R5: what a cold reset leaves of Table Memory. -/
theorem Tables.read_coldMemory {t : Tables} (h : t.mem.wf = true)
    (hold : ∀ w, t.licenceWrite = some w → w.old.length = 64) (a : Nat) :
    t.coldMemory.read a =
      if 256 ≤ a then 0
      else
        match t.licenceWrite with
        | some w =>
          if 64 * w.block.val ≤ a ∧ a < 64 * w.block.val + 64 then w.old.getD (a - 64 * w.block.val) 0
          else t.mem.read a
        | none => t.mem.read a := by
  unfold Tables.coldMemory
  cases hw : t.licenceWrite with
  | none =>
    obtain ⟨-, hread⟩ := Memory.licenceOnly_spec h
    simp only [hread]
    by_cases ha : 256 ≤ a
    · rw [if_neg (by omega), if_pos ha]
    · rw [if_pos (by omega), if_neg ha]
  | some w =>
    obtain ⟨-, hread⟩ := Memory.licenceOnly_spec (Memory.wf_writeBytes w.old _ (blockAddr w.block.val) h)
    simp only [hread, Memory.read_writeBytes a w.old _ _ h, hold w hw]
    by_cases ha : 256 ≤ a
    · rw [if_neg (by omega), if_pos ha]
    · rw [if_pos (by omega), if_neg ha]
      rfl

/-- R8: no evaluation is taken in reset, so its end meets the part as it is held. -/
theorem exec_resetNRelease_of_held {levels : Lines} {s : State} (h : s.part.held = true) :
    exec (.resetNRelease levels) s =
      .next { s with part := ((s.part.setHeld false).setLines levels).endReset.settle.drivePins } := by
  have hrun : exec (.resetNRelease levels) s = .next { s with part := s.part.evaluated.resetReleased levels } := rfl
  rw [hrun, Part.evaluated_of_held h, Part.resetReleased, if_pos h]

/-- Settles O6: a cold reset and the release of RESET_N both come to the end of a reset, with the line's level as it
is. -/
theorem resetsEndWithPowerZero : Obligations.ResetsEndWithPowerZero := by
  refine ⟨fun s h hold => ⟨s.part.tables.coldMemory, (Tables.coldMemory_spec h).1, Tables.read_coldMemory h hold, ?_,
    rfl⟩,
    fun levels s => ⟨fun h => ?_, fun hh hraised hm hs hr => ⟨fun ht => ?_, fun ht hroom => ?_⟩⟩⟩
  · have hrun : exec (.coldReset false) s =
        .next { s with part := (s.part.coldReset false).endReset.settle.drivePins } := rfl
    rw [hrun]
    cases ht : s.part.lines.txTrip with
    | false =>
      rw [Part.endReset_released (s := s.part.coldReset false) rfl rfl rfl ht]
      rfl
    | true =>
      have hroom : (s.part.coldReset false).room .txTrip .nothing :=
        ⟨Nat.zero_le _, fun _ hr => absurd hr List.not_mem_nil⟩
      rw [Part.endReset_asserted (s := s.part.coldReset false) rfl rfl rfl rfl ht hroom]
      rfl
  · have hrun : exec (.resetNRelease levels) s = .next { s with part := s.part.resetReleased levels } :=
      State.run_of_taking h
    rw [hrun, Part.resetReleased, if_neg (by simp [h.1])]
  · rw [exec_resetNRelease_of_held hh,
      Part.endReset_released (s := (s.part.setHeld false).setLines levels) hraised hs hr ht]
    rfl
  · rw [exec_resetNRelease_of_held hh,
      Part.endReset_asserted (s := (s.part.setHeld false).setLines levels) hraised hm hs hr ht hroom]
    rfl

end Sys2Proof.Machine
end

section
/-! SUPPORT. Banks that read alike, and what the completion of a ramp leaves. -/

namespace Sys2Proof.Machine

/-! ### Banks that read alike -/

theorem Bank.u16_congr {b b' : Bank} (h : b.u8 = b'.u8) : b.u16 = b'.u16 := by
  have h16 : ∀ b : Bank, b.u16 = fun a => 256 * b.u8 a + b.u8 (a + 1) := fun _ => rfl
  rw [h16, h16, h]

theorem Bank.installed_congr {b b' : Bank} (h : b.u8 = b'.u8) : b.installed = b'.installed := by
  funext t
  rw [Bank.installed, Bank.installed, Bank.towerCount, Bank.towerCount, h]

theorem Bank.elemKind_congr {b b' : Bank} (h : b.u8 = b'.u8) : b.elemKind = b'.elemKind := by
  funext e
  rw [Bank.elemKind, Bank.elemKind, Bank.elemKindCode, Bank.elemKindCode, h]

theorem Bank.idleConfig_congr {b b' : Bank} (h : b.u8 = b'.u8) : b.idleConfig = b'.idleConfig := by
  simp only [Bank.idleConfig, Bank.idleRef, Bank.idleW, Bank.idleS, h]

theorem Bank.patternConfig_congr {b b' : Bank} (h : b.u8 = b'.u8) : b.patternConfig = b'.patternConfig := by
  funext p
  have ht : b.target p = b'.target p := by
    funext t
    simp only [Bank.target, h, Bank.u16_congr h]
  simp only [Bank.patternConfig, Bank.patRef, Bank.patW, Bank.patS, h, ht]

theorem Part.silent_congr {s t : Part} (hb : s.bank.u8 = t.bank.u8) (he : s.elems = t.elems) : s.silent = t.silent := by
  funext e
  simp only [Part.silent, he, Bank.elemKind_congr hb]

/-! ### Records and restarts outside IN_PATTERN -/

theorem Part.endRecords_eq (s : Part) (p : FaultRecord → Bool) :
    s.endRecords p = (s.setFaults (s.endRecords p).faults).setSeq (s.endRecords p).seq := by
  unfold Part.endRecords
  dsimp only
  split <;> rfl

/-- R96: an end of records does no more to the sequencer than to set the restore count to 0. -/
theorem Part.endRecords_seq_cases (s : Part) (p : FaultRecord → Bool) :
    (s.endRecords p).seq = s.seq ∨ (s.endRecords p).seq = { s.seq with restore := 0 } := by
  unfold Part.endRecords
  dsimp only
  split
  · exact .inr rfl
  · exact .inl rfl

theorem Part.endRecords_seq {s : Part} (h : s.isInPattern = false) (p : FaultRecord → Bool) :
    (s.endRecords p).seq = s.seq := by
  simp [Part.endRecords, h, Part.setFaults]

theorem Part.endStale_seq (ts : List Tower) : ∀ s : Part, s.isInPattern = false → (s.endStale ts).seq = s.seq := by
  induction ts with
  | nil => exact fun _ _ => rfl
  | cons t ts ih =>
    intro s h
    have hs : (s.endCondition .towerStale (.tower t)).seq = s.seq := Part.endRecords_seq h _
    have h' : (s.endCondition .towerStale (.tower t)).isInPattern = false := by
      rw [← h]
      simp only [Part.isInPattern, hs]
    exact (ih _ h').trans hs

theorem Part.restart_seq {s : Part} (h : s.isInPattern = false) (c : MonitorConfig) : (s.restart c).seq = s.seq := by
  have hstate : ∀ s : Part, (s.restartState c).clearSettle.seq = s.seq := fun _ => rfl
  rw [Part.restart, hstate, Part.endStale_seq s.staleTowers s h]

@[simp] theorem Part.restart_config (s : Part) (c : MonitorConfig) : (s.restart c).corr.config = c := by
  have hstate : ∀ s : Part, (s.restartState c).clearSettle.corr.config = c := fun _ => rfl
  rw [Part.restart, hstate]

@[simp] theorem Part.restart_raised (s : Part) (c : MonitorConfig) : (s.restart c).raised = s.raised :=
  congrArg Outline.raised (s.restart_outline c)

@[simp] theorem Part.restart_ramp (s : Part) (c : MonitorConfig) : (s.restart c).ramp = s.ramp :=
  congrArg Outline.ramp (s.restart_outline c)

@[simp] theorem Part.restart_station (s : Part) (c : MonitorConfig) : (s.restart c).station = s.station :=
  congrArg Outline.station (s.restart_outline c)

@[simp] theorem Part.restart_tables (s : Part) (c : MonitorConfig) : (s.restart c).tables = s.tables :=
  congrArg Outline.tables (s.restart_outline c)

@[simp] theorem Part.restart_uptime (s : Part) (c : MonitorConfig) : (s.restart c).uptime = s.uptime :=
  congrArg Outline.uptime (s.restart_outline c)

/-- R155: what the end of the event records leaves of the list. -/
theorem Part.endEventRecords_records (s : Part) : s.endEventRecords.faults.records = eventsEnded s.faults.records := by
  have h : s.endEventRecords.faults.records = s.faults.records.map fun r =>
      if (r.active && (!r.kind.isCondition && r.cls != .d)) = true then { r with active := false } else r := by
    unfold Part.endEventRecords Part.endRecords
    dsimp only
    split <;> rfl
  rw [h, eventsEnded]
  refine List.map_congr_left fun r _ => ?_
  simp

@[simp] theorem Part.endEventRecords_raised (s : Part) : s.endEventRecords.raised = s.raised :=
  congrArg Outline.raised s.endEventRecords_outline

@[simp] theorem Part.endEventRecords_ramp (s : Part) : s.endEventRecords.ramp = s.ramp :=
  congrArg Outline.ramp s.endEventRecords_outline

@[simp] theorem Part.endEventRecords_station (s : Part) : s.endEventRecords.station = s.station :=
  congrArg Outline.station s.endEventRecords_outline

@[simp] theorem Part.endEventRecords_corr (s : Part) : s.endEventRecords.corr = s.corr := by
  unfold Part.endEventRecords Part.endRecords
  dsimp only
  split <;> rfl

/-! ### A Station Port that transmits -/

theorem Part.stationKick_of_busy {s : Part} (h : s.stationBusy) : s.stationKick = s := by
  unfold Part.stationKick
  split
  next hs => exact absurd hs h
  next => rfl

theorem Part.handPower_of_busy {s : Part} (h : s.stationBusy) (l : Nat) :
    s.handPower l = s.setStation { s.station with power := some l } :=
  Part.stationKick_of_busy h

/-- R145: the Ramp Engine with INHIBIT asserted. -/
def RampEngine.silenced (r : RampEngine) : RampEngine :=
  { r with level := 0, target := 0, inProgress := false, deadline := none, nextSend := none, inhibit := true }

theorem Part.forceZero_of_busy {s : Part} (h : s.stationBusy) :
    s.forceZero = (s.setRamp s.ramp.silenced).setStation { s.station with power := some 0 } :=
  Part.handPower_of_busy (s := s.setRamp s.ramp.silenced) h 0

/-! ### What the completion of a ramp leaves (R141) -/

theorem RampEngine.reached_iff (r : RampEngine) : r.reached = true ↔ r.Complete := by
  unfold RampEngine.reached RampEngine.Complete levelGap
  cases r.lastReported with
  | none => simp
  | some x =>
    simp only [Bool.and_eq_true, beq_iff_eq, decide_eq_true_eq, and_assoc, Option.mem_def, Option.some.injEq,
      exists_eq_left']
    refine and_congr_right fun _ => and_congr_right fun _ => ?_
    omega

theorem Part.slotTaken_of_empty {s : Part} (h : s.seq.slot = none) : s.slotTaken = s := by
  rw [Part.slotTaken, Part.takeSlot]
  split
  · rfl
  next hr => rw [h] at hr; exact absurd hr (by simp)

/-- What an event leaves that owes nothing and answers. -/
theorem Part.settle_replied {w : Part} (h : w.raised = []) (f : Frame) :
    (w.replied f).settle.drivePins = (w.replied f).closed := by
  have h' : (w.replied f).raised = [] := h
  rw [Part.settle_of_none h', Part.drivePins_of_none h']

/-- R88: the end of a change in STOPPED, up to the taking of the pending slot. -/
theorem Part.enterStopped_eq (s : Part) (next : Part → Part) : ∃ w, s.enterStopped next = next w ∧
    (w = (s.forceZero.setSeq { s.forceZero.seq with mode := .stopped, active := none }).restartIdle ∨
     w = (s.forceZero.setSeq { s.forceZero.seq with mode := .stopped, active := none }).restartIdle.endEventRecords) :=
  ⟨_, rfl, (ite_eq_or_eq _ _ _).symm⟩

/-- R88: a change that ends in STOPPED with no request waiting. -/
theorem Part.enterStopped_leaves {s : Part} (hslot : s.seq.slot = none) (hb : s.stationBusy) :
    (s.enterStopped Part.slotTaken).raised = s.raised ∧
      (s.enterStopped Part.slotTaken).ramp = s.ramp.silenced ∧
      (s.enterStopped Part.slotTaken).station = { s.station with power := some 0 } ∧
      (s.enterStopped Part.slotTaken).seq = { s.seq with mode := .stopped, active := none } ∧
      (s.enterStopped Part.slotTaken).corr.config = s.bank.idleConfig := by
  obtain ⟨w, he, hw⟩ := s.enterStopped_eq Part.slotTaken
  rw [Part.forceZero_of_busy hb] at hw
  have hseq : w.seq = { s.seq with mode := .stopped, active := none } := by
    rcases hw with rfl | rfl
    · exact Part.restart_seq rfl _
    · refine (Part.endRecords_seq ?_ _).trans (Part.restart_seq rfl _)
      rw [Part.isInPattern, Part.restartIdle, Part.restart_seq rfl]
      rfl
  rw [he, Part.slotTaken_of_empty (by rw [hseq]; exact hslot)]
  refine ⟨?_, ?_, ?_, hseq, ?_⟩ <;> rcases hw with rfl | rfl <;> simp [Part.restartIdle] <;> rfl

theorem Part.modifyChange_of_changing {s : Part} {c : Change} (hm : s.seq.mode = .changing c) (f : Change → Change) :
    s.modifyChange f = s.setSeq { s.seq with mode := .changing (f c) } := by
  simp only [Part.modifyChange, hm]

/-- R80: MUTING, entered while QUIET does not hold. -/
theorem Part.enterMuting_leaves {s : Part} {c : Change} (hm : s.seq.mode = .changing c) (hq : s.table.quiet = false)
    (hb : s.stationBusy) (p : Pat) :
    s.enterMuting p = { s with
      ramp := s.ramp.silenced
      station := { s.station with power := some 0 }
      seq :=
        { s.seq with
          mode := .changing { c with
            phase := .muting, phaseDeadline := some (s.uptime + BitVec.ofNat 32 s.bank.muteTimeout) } } } := by
  have hphase : s.setPhase .muting = s.setSeq { s.seq with mode := .changing { c with phase := .muting } } := by
    simp only [Part.setPhase, Part.modifyChange, hm]
  have hzero : (s.setPhase .muting).forceZero =
      ((s.setPhase .muting).setRamp s.ramp.silenced).setStation { s.station with power := some 0 } := by
    rw [hphase]
    exact Part.forceZero_of_busy (s := s.setSeq _) hb
  unfold Part.enterMuting
  rw [hzero, hphase]
  exact if_neg (show ¬s.table.quiet = true by simp [hq])

/-- R84: TRIMMING, entered from RAMP_TO_TRIM. -/
theorem Part.enterTrimming_leaves {s : Part} {c : Change} (hm : s.seq.mode = .changing c) (p : Pat) :
    (s.enterTrimming p).raised = s.raised ∧ (s.enterTrimming p).ramp = s.ramp ∧
      (s.enterTrimming p).corr.config = s.bank.patternConfig p ∧
      (s.enterTrimming p).seq =
        { s.seq with
          mode := .changing { c with
            phase := .trimming, verify := 0
            settleDeadline := some (s.uptime + BitVec.ofNat 32 (s.bank.settleTimeout p)) } } := by
  unfold Part.enterTrimming
  rw [Part.setPhase, Part.modifyChange_of_changing hm]
  generalize hw : (s.setSeq { s.seq with mode := .changing { c with phase := .trimming } }).restartPattern p = w
  have hseq : w.seq = { s.seq with mode := .changing { c with phase := .trimming } } := by
    rw [← hw]
    exact Part.restart_seq rfl _
  have htables : w.bank = s.bank := by
    rw [← hw, Part.bank, Part.restartPattern, Part.restart_tables]
    rfl
  have huptime : w.uptime = s.uptime := by
    rw [← hw, Part.restartPattern, Part.restart_uptime]
    rfl
  have hleft : w.raised = s.raised ∧ w.ramp = s.ramp ∧ w.corr.config = s.bank.patternConfig p := by
    rw [← hw, Part.restartPattern, Part.restart_raised, Part.restart_ramp, Part.restart_config]
    exact ⟨rfl, rfl, rfl⟩
  obtain ⟨hraised, hramp, hconfig⟩ := hleft
  dsimp only
  rw [Part.modifyChange_of_changing (congrArg Sequencer.mode hseq)]
  refine ⟨hraised, hramp, hconfig, ?_⟩
  rw [Part.setSeq_seq, hseq, htables, huptime]
  rfl

/-- R87: nothing is raised at an entry to IN_PATTERN with every tower heard, every element heard, TX_TRIP released and
the Field Port UP. -/
theorem Part.settleInPattern_of_none {s : Part} (hr : s.raised = []) (ht : s.lines.txTrip = false)
    (hf : s.field.link.up = true)
    (hstale : ∀ k : Tower, s.bank.installed k = true → s.table.readings[k].state ≠ .stale)
    (hsilent : ∀ e : Elem, s.silent e = false) : s.settleInPattern = s := by
  have hs0 : s.setRaised [] = s := by rw [← hr]; rfl
  have h1 : (s.staleTowers.filter s.bank.installed) = [] := by
    rw [List.filter_eq_nil_iff]
    intro k hk hi
    simp only [Part.staleTowers, List.mem_filter, beq_iff_eq] at hk
    exact hstale k hi hk.2
  have h2 : elements.filter s.silent = [] := by
    rw [List.filter_eq_nil_iff]
    intro e _ he
    rw [hsilent e] at he
    exact absurd he (by simp)
  have h : s.raiseInPattern = s := by
    unfold Part.raiseInPattern
    simp only [h1, List.map_nil, Part.raiseEach, List.foldl_nil, h2, ht, hf, if_true, Bool.false_eq_true, if_false]
  unfold Part.settleInPattern
  dsimp only
  rw [hs0, h, if_pos (by rw [hr]; rfl), hr, hs0]

/-- R87: a change that ends in IN_PATTERN, NORMAL, with no request waiting. -/
theorem Part.enterInPattern_leaves {s : Part} (hslot : s.seq.slot = none) (hr : s.raised = [])
    (ht : s.lines.txTrip = false) (hf : s.field.link.up = true)
    (hstale : ∀ k : Tower, s.bank.installed k = true → s.table.readings[k].state ≠ .stale)
    (hsilent : ∀ e : Elem, s.silent e = false) (p : Pat) :
    (s.enterInPattern Part.slotTaken p).raised = [] ∧ (s.enterInPattern Part.slotTaken p).ramp = s.ramp ∧
      (s.enterInPattern Part.slotTaken p).seq =
        { s.seq with
          mode := .inPattern, sub := .normal, active := some p, ootRun := 0, ootRaised := false, restore := 0 } ∧
      (s.enterInPattern Part.slotTaken p).faults.records = eventsEnded s.faults.records := by
  unfold Part.enterInPattern
  dsimp only
  generalize hw : (s.setSeq _).endEventRecords = w
  have hseq : w.seq = { s.seq with
      mode := .inPattern, sub := .normal, active := some p, ootRun := 0, ootRaised := false, restore := 0 } := by
    rw [← hw]
    rcases Part.endRecords_seq_cases (s.setSeq _) _ with h | h <;> exact h
  have hrecords : w.faults.records = eventsEnded s.faults.records := by
    rw [← hw, Part.endEventRecords_records]
    rfl
  have hrest : w.raised = s.raised ∧ w.ramp = s.ramp ∧ w.lines = s.lines ∧ w.field = s.field ∧ w.table = s.table ∧
      w.tables = s.tables ∧ w.elems = s.elems := by
    rw [← hw, Part.endEventRecords, Part.endRecords_eq]
    exact ⟨rfl, rfl, rfl, rfl, rfl, rfl, rfl⟩
  obtain ⟨hraised, hramp, hlines, hfield, htable, htables, helems⟩ := hrest
  have hbank : w.bank = s.bank := by rw [Part.bank, htables, Part.bank]
  have hquiet : w.settleInPattern = w := by
    refine Part.settleInPattern_of_none (hraised.trans hr) (by rw [hlines, ht]) (by rw [hfield, hf]) (fun k hk => ?_)
      fun e => ?_
    · rw [htable]
      exact hstale k (hbank ▸ hk)
    · rw [Part.silent_congr (congrArg Bank.u8 hbank) helems]
      exact hsilent e
  rw [hquiet, Part.slotTaken_of_empty (by rw [hseq]; exact hslot)]
  exact ⟨hraised.trans hr, hramp, hseq, hrecords⟩

/-- R171: a reply waits behind the frame in transmission, or is lost. -/
theorem StationPort.withReply_of_busy {p : StationPort} (h : p.sending ≠ none) (f : Frame) :
    p.withReply f = { p with replies := if p.replies.length < 8 then p.replies ++ [f] else p.replies } := by
  unfold StationPort.withReply
  by_cases h8 : p.replies.length < 8
  · rw [if_neg (not_le.mpr h8), if_pos h8]
    split
    · rfl
    next hs _ => exact absurd hs h
    next hs _ => exact absurd hs h
  · rw [if_pos (not_lt.mp h8), if_neg h8]

theorem StationPort.withReply_power {p : StationPort} (h : p.sending ≠ none) (f : Frame) :
    (p.withReply f).power = p.power := by
  rw [StationPort.withReply_of_busy h]

/-- R79, R83, R87, R88: the completion of a ramp, in each phase of a change that waits on one. -/
theorem Part.rampCompleted_rampEnded {s : Part} {c : Change} (hm : s.seq.mode = .changing c) (hslot : s.seq.slot = none)
    (hr : s.raised = []) (hb : s.stationBusy) (f : Frame) :
    Part.RampEnded s ((s.rampCompleted Part.slotTaken).replied f).settle.drivePins c s.ramp s.uptime := by
  have hc : s.change? = some c := by rw [Part.change?, hm]
  refine ⟨fun hph hto => ?_, fun q hto => ⟨fun hph hq => ?_, fun hph => ?_, fun hph ht hf hstale hsilent => ?_⟩⟩
  · have he : s.rampCompleted Part.slotTaken = s.enterStopped Part.slotTaken := by
      simp only [Part.rampCompleted, hc, hph, hto]
    obtain ⟨hraised, hramp, hstation, hseq, hconfig⟩ := Part.enterStopped_leaves hslot hb
    rw [he, Part.settle_replied (hraised.trans hr)]
    generalize s.enterStopped Part.slotTaken = w at *
    have hpower : (w.station.withReply f).power = some 0 := by
      rw [hstation]
      exact StationPort.withReply_power (p := { s.station with power := some 0 }) hb f
    exact ⟨⟨congrArg RampEngine.inhibit hramp, congrArg RampEngine.level hramp, congrArg RampEngine.target hramp,
      congrArg RampEngine.inProgress hramp, hpower⟩, hseq, hconfig⟩
  · have he : s.rampCompleted Part.slotTaken = s.enterMuting q := by
      simp only [Part.rampCompleted, hc, hph, hto]
    have hleft := Part.enterMuting_leaves hm hq hb q
    rw [he, Part.settle_replied (by rw [hleft]; exact hr), hleft]
    exact ⟨⟨rfl, rfl, rfl, rfl, StationPort.withReply_power (p := { s.station with power := some 0 }) hb f⟩, rfl⟩
  · have he : s.rampCompleted Part.slotTaken = s.enterTrimming q := by
      simp only [Part.rampCompleted, hc, hph, hto]
    obtain ⟨hraised, hramp, hconfig, hseq⟩ := Part.enterTrimming_leaves hm q
    rw [he, Part.settle_replied (hraised.trans hr)]
    generalize s.enterTrimming q = w at *
    exact ⟨hramp, hconfig, hseq⟩
  · have he : s.rampCompleted Part.slotTaken = s.enterInPattern Part.slotTaken q := by
      simp only [Part.rampCompleted, hc, hph, hto]
    obtain ⟨hraised, hramp, hseq, hrecords⟩ := Part.enterInPattern_leaves hslot hr ht hf hstale hsilent q
    rw [he, Part.settle_replied hraised]
    generalize s.enterInPattern Part.slotTaken q = w at *
    exact ⟨hramp, hseq, hrecords⟩

/-- What a ramp's end leaves is said of any two parts alike in what it speaks of. -/
theorem Part.RampEnded.congr {s s' t : Part} {c : Change} {done : RampEngine} {now : Uptime}
    (h : Part.RampEnded s t c done now) (hbank : s'.bank.u8 = s.bank.u8) (hseq : s'.seq = s.seq)
    (htable : s'.table = s.table) (htrip : s'.lines.txTrip = s.lines.txTrip) (hfield : s'.field = s.field)
    (helems : s'.elems = s.elems) (hfaults : s'.faults = s.faults) : Part.RampEnded s' t c done now := by
  unfold Part.RampEnded at h ⊢
  rw [Part.silent_congr hbank helems, Bank.idleConfig_congr hbank, Bank.patternConfig_congr hbank,
    Bank.installed_congr hbank, Bank.muteTimeout, Bank.u16_congr hbank, hseq, htable, htrip, hfield, hfaults]
  simp only [Bank.settleTimeout, Bank.u16_congr hbank]
  exact h

end Sys2Proof.Machine
end

section
/-! PROOFS. Licence writes. -/

namespace Sys2Proof.Machine

/-! ### Licence writes (R4, R144) -/

theorem patOf_val (p : Pat) : patOf p.val = some p := by
  rw [patOf, dif_pos p.isLt]

theorem Part.licenceWritten_eq (s : Part) (p : Pat) (data : List Byte) : s.licenceWritten p data = s.setTables
    { mem := s.tables.mem.writeBytes (blockAddr p.val) data
      licenceWrite := some
        { block := p, old := (List.range 64).map fun k => s.tables.mem.read (64 * p.val + k), deadline := s.uptime + 5 }
      staged := if s.tables.staged = .ready then .editing else s.tables.staged } := by
  rw [Part.licenceWritten, Memory.readBytes_eq]
  rfl

/-- R6: the licensed level of a block that has been written. -/
theorem Memory.licensedLevel_writeBytes {m : Memory} (hm : m.wf = true) (p : Pat) {data : List Byte}
    (hlen : data.length = 64) : (m.writeBytes (blockAddr p.val) data).licensedLevel p =
      min (256 * (data.getD 0 0).toNat + (data.getD 1 0).toNat) 1000 := by
  have hread : ∀ k, k < 64 → (m.writeBytes (blockAddr p.val) data).read (64 * p.val + k) = data.getD k 0 := by
    intro k hk
    rw [Memory.read_writeBytes _ data m _ hm, blockAddr, hlen, if_pos (by omega), Nat.add_sub_cancel_left]
  rw [Memory.licensedLevel, Memory.u16, Memory.u8, Memory.u8, hread 1 (by omega)]
  exact congrArg (fun b : Byte => min (256 * b.toNat + (data.getD 1 0).toNat) 1000) (hread 0 (by omega))

/-- The licence region lies outside the active bank. -/
theorem Part.licenceWritten_bank {s : Part} (hm : s.tables.mem.wf = true) (p : Pat) {data : List Byte}
    (hlen : data.length = 64) : (s.licenceWritten p data).bank.u8 = s.bank.u8 := by
  obtain ⟨-, hread⟩ := Memory.writeBytes_frame (n := p.val) hlen hm
  funext a
  exact congrArg BitVec.toNat (hread (5120 + a) (by omega))

/-- R138, R144: the licence clamp, with the Station Port transmitting. -/
theorem Part.clampLicence_of_busy {s : Part} {p : Pat} (hg : s.governing = some p) (hb : s.stationBusy) :
    s.clampLicence = (s.setRamp (s.ramp.heldTo (s.tables.mem.licensedLevel p))).setStation
      { s.station with
        power := if s.tables.mem.licensedLevel p < s.ramp.level then some (s.tables.mem.licensedLevel p)
                 else s.station.power } := by
  rw [Part.clampLicence_eq, hg]
  dsimp only
  split
  · exact Part.handPower_of_busy (s := s.setRamp (s.ramp.heldTo _)) hb _
  · rfl

/-- R138, R144: the part with a licence block written and T and L held to its licensed level. -/
def Part.licenceClamped (s : Part) (p : Pat) (data : List Byte) : Part :=
  let lic := (s.licenceWritten p data).tables.mem.licensedLevel p
  ((s.licenceWritten p data).setRamp (s.ramp.heldTo lic)).setStation
    { s.station with power := if lic < s.ramp.level then some lic else s.station.power }

theorem Part.writeLicence_governing {s : Part} {p : Pat} (hg : s.governing = some p) (hb : s.stationBusy)
    (data : List Byte) : s.writeLicence p data = (s.licenceClamped p data).settleRamp Part.slotTaken := by
  have hgov : (s.licenceWritten p data).governing = some p := hg
  rw [Part.writeLicence_eq, if_pos hgov, Part.clampLicence_of_busy hgov hb]
  rfl

theorem exec_writeBlock_licence {src tag n : Byte} {p : Pat} {data : List Byte} {s : State} (h : s.part.taking)
    (hlen : data.length = 64) (hn : n.toNat = p.val) (hw : s.part.tables.licenceWrite = none) :
    exec (.writeBlock src tag n true data) s = .next
      { s with
        part := ((((s.part.keyed true).stationHeard.setRaised []).writeLicence p data).replied
          (mgmtReply src tag 2 0 [])).settle.drivePins } := by
  have hr : ((s.part.keyed true).stationHeard.setRaised []).writeRefusal n.toNat = none :=
    Part.writeRefusal_licence (by omega) rfl hw
  have haccept : ∀ b : Part, b.acceptWrite n.toNat data = b.writeLicence p data := by
    intro b
    rw [Part.acceptWrite, hn, patOf_val]
  have hrun : exec (.writeBlock src tag n true data) s = .next
      { s with part := (((s.part.keyed true).stationHeard.setRaised []).writeBlock src tag n data).settle.drivePins } :=
    State.run_event (op := fun s => ((s.linkAlive .station).setKey true).writeBlock src tag n data) h
  rw [hrun, Part.writeBlock_accepted hlen hr, haccept]

/-- R9: with the staged bank not READY nothing in an event touches the tables. -/
theorem Part.Moves.tables_of_unready {s t : Part} (m : s.Moves t) (h : s.tables.staged ≠ .ready) :
    t.tables = s.tables := by
  refine m.keeps (P := fun c => c.tables = s.tables) (fun mv hc => ?_) rfl
  cases mv with
  | promote due hready => exact absurd (hc ▸ hready) h
  | _ => exact hc

theorem Part.replied_moves (s : Part) (f : Frame) : s.Moves (s.replied f) :=
  Part.reply_eq s f ▸ (s.reply_sends f).moves

/-- R4, R7: what an accepted licence write leaves of the tables, whatever ends with it. -/
theorem Part.writeLicence_tables (s : Part) (p : Pat) (data : List Byte) (f : Frame) :
    ((s.writeLicence p data).replied f).settle.drivePins.tables = (s.licenceWritten p data).tables := by
  have hmoves : (s.licenceWritten p data).Moves (s.writeLicence p data) := by
    rw [Part.writeLicence_eq]
    split
    · exact (Part.clampLicence_moves _).trans (Part.settleRamp_moves Part.slotTaken_moves _)
    · exact Part.Moves.refl _
  refine ((hmoves.trans (Part.replied_moves _ f)).trans (Part.settle_drivePins_moves _)).tables_of_unready ?_
  show (if s.tables.staged = .ready then .editing else s.tables.staged) ≠ StagedState.ready
  split
  · nofun
  · assumption

/-- R141: outside the phases of a change that wait on a ramp, its completion has no effect on the sequencer. -/
theorem Part.rampCompleted_of_idle {s : Part} (next : Part → Part)
    (h : ∀ c, s.seq.mode = .changing c → c.phase ≠ .rampDown ∧ c.phase ≠ .rampToTrim ∧ c.phase ≠ .rampFinal) :
    s.rampCompleted next = s := by
  unfold Part.rampCompleted
  split
  · rfl
  next c hc =>
    obtain ⟨h1, h2, h3⟩ := h c (Part.change?_eq hc)
    split
    next hp _ => exact absurd hp h1
    next hp _ => exact absurd hp h1
    next hp _ => exact absurd hp h2
    next hp _ => exact absurd hp h3
    next => rfl

theorem Part.atDeadline_eq (s : Part) (d : Uptime) : s.atDeadline d = s.atExpiry d := by
  unfold Part.atDeadline Part.atExpiry due
  simp only [decide_eq_true_eq]
  rfl

theorem Part.atExpiry_eq (s : Part) (d : Uptime) :
    s.atExpiry d = s.setUptime (if (s.uptime - d).toNat < 2147483648 then s.uptime else d) := by
  unfold Part.atExpiry
  split <;> rfl

/-- R144: what a licence write that completes no ramp leaves of the part. -/
theorem Part.licenceClamped_answered {s : Part} (p : Pat) {data : List Byte} (hm : s.tables.mem.wf = true)
    (hlen : data.length = 64) (hb : s.stationBusy) {licensed : Nat}
    (hl : licensed = min (256 * (data.getD 0 0).toNat + (data.getD 1 0).toNat) 1000) (r : RampEngine) (f : Frame) :
    let t := (((((s.keyed true).stationHeard.setRaised []).licenceClamped p data).setRamp r).replied f).closed
    t = { s with
      raised := []
      lines := { s.lines with licenceKey := true }
      pins := t.pins
      tables := t.tables
      ramp := r
      station :=
        { s.station with
          link := Link.heard s.uptime
          power := if licensed < s.ramp.level then some licensed else s.station.power
          replies := if s.station.replies.length < 8 then s.station.replies ++ [f] else s.station.replies } } := by
  intro t
  have hlic : (((s.keyed true).stationHeard.setRaised []).licenceWritten p data).tables.mem.licensedLevel p =
      licensed :=
    (Memory.licensedLevel_writeBytes hm p hlen).trans hl.symm
  generalize hq : ({ s.station with
    link := Link.heard s.uptime
    power := if licensed < s.ramp.level then some licensed else s.station.power } : StationPort) = q
  have hstation : t.station = q.withReply f := by
    rw [← hq, ← hlic]
    rfl
  have hsending : q.sending ≠ none := by
    rw [← hq]
    exact hb
  have ht : t = { s with
      raised := [], lines := { s.lines with licenceKey := true }, pins := t.pins, tables := t.tables, ramp := r
      station := t.station } := rfl
  refine ht.trans ?_
  rw [hstation, StationPort.withReply_of_busy hsending, ← hq]

theorem Part.settleRamp_of_unreached {s : Part} {next : Part → Part} (h : ¬s.ramp.Complete) : s.settleRamp next = s :=
  if_neg fun hr => h ((RampEngine.reached_iff _).mp hr)

theorem Part.settleRamp_of_reached {s : Part} {next : Part → Part} (h : s.ramp.Complete) :
    s.settleRamp next = (s.setRamp s.ramp.completed).rampCompleted next :=
  if_pos ((RampEngine.reached_iff _).mpr h)

/-- Settles O10: the write itself, then the clamp of the governing slot, then the completion test of the ramp. -/
theorem licenceWritesTakeEffectAtOnce : Obligations.LicenceWritesTakeEffectAtOnce := by
  refine ⟨fun src tag n p data s h hlen hm hn hw hg => ?_, fun src tag n p data s h hlen hm hn hw hg hb => ?_,
    fun w s h hw => ?_⟩
  · refine ⟨_, Memory.replaced_writeBytes hm p.val hlen, ?_⟩
    have hwritten : ((s.part.keyed true).stationHeard.setRaised []).writeLicence p data =
        ((s.part.keyed true).stationHeard.setRaised []).licenceWritten p data :=
      (Part.writeLicence_eq ..).trans (if_neg hg)
    rw [exec_writeBlock_licence h hlen hn hw, hwritten, Part.licenceWritten_eq, Part.settle_replied rfl]
    rfl
  · intro licensed clamped
    have hwrite : ((s.part.keyed true).stationHeard.setRaised []).writeLicence p data =
        (((s.part.keyed true).stationHeard.setRaised []).licenceClamped p data).settleRamp Part.slotTaken :=
      Part.writeLicence_governing (s := (s.part.keyed true).stationHeard.setRaised []) hg hb data
    have htables := Part.writeLicence_tables ((s.part.keyed true).stationHeard.setRaised []) p data
      (mgmtReply src tag 2 0 [])
    rw [Part.licenceWritten_eq] at htables
    have hramp : (((s.part.keyed true).stationHeard.setRaised []).licenceClamped p data).ramp = clamped :=
      congrArg s.part.ramp.heldTo (Memory.licensedLevel_writeBytes hm p hlen)
    refine ⟨_, exec_writeBlock_licence h hlen hn hw, ?_, ?_, ?_, ⟨fun hc => ?_, fun hc hidle => ?_⟩,
      fun c hc hmode hslot => ?_⟩
    · rw [htables]
      exact Memory.replaced_writeBytes hm p.val hlen
    · rw [htables]
      rfl
    · rw [htables]
      rfl
    · have hsettle := Part.settleRamp_of_unreached (next := Part.slotTaken) (hramp.symm ▸ hc)
      rw [hwrite, hsettle, Part.settle_replied rfl, ← hramp]
      exact Part.licenceClamped_answered p hm hlen hb rfl _ _
    · have hsettle := Part.settleRamp_of_reached (next := Part.slotTaken) (hramp.symm ▸ hc)
      have hdone := Part.rampCompleted_of_idle Part.slotTaken
        (s := (((s.part.keyed true).stationHeard.setRaised []).licenceClamped p data).setRamp clamped.completed) hidle
      rw [hwrite, hsettle, hramp, hdone, Part.settle_replied rfl]
      exact Part.licenceClamped_answered p hm hlen hb rfl _ _
    · have hsettle := Part.settleRamp_of_reached (next := Part.slotTaken) (hramp.symm ▸ hc)
      have hbank : s.part.bank.u8 = ((((s.part.keyed true).stationHeard.setRaised []).licenceClamped p data).setRamp
          clamped.completed).bank.u8 :=
        (Part.licenceWritten_bank (s := (s.part.keyed true).stationHeard.setRaised []) hm p hlen).symm
      have hended := Part.rampCompleted_rampEnded (c := c)
        (s := (((s.part.keyed true).stationHeard.setRaised []).licenceClamped p data).setRamp clamped.completed)
        hmode hslot rfl hb (mgmtReply src tag 2 0 [])
      rw [hwrite, hsettle, hramp]
      exact hended.congr hbank rfl rfl rfl rfl rfl rfl
  · have hdone : (s.part.setRaised []).licenceDone =
        (({ s.part.atExpiry w.deadline with tables :=
          { s.part.tables with licenceWrite := none } } : Part)).setRaised [] := by
      unfold Part.licenceDone Part.expire
      rw [Part.setRaised_tables, hw]
      dsimp only [Option.map]
      rw [Part.atDeadline_eq, Part.atExpiry_eq, Part.atExpiry_eq]
      rfl
    exact State.run_event_of_none h hdone

end Sys2Proof.Machine
end

section
/-! PROOFS. COMMIT. -/

namespace Sys2Proof.Machine

/-! ### The violation that is reported (R19) -/

theorem Violation.earlier_iff (x y : Violation) :
    x.earlier y = true ↔ x.pos < y.pos ∨ (x.pos = y.pos ∧ x.reason.code ≤ y.reason.code) := by
  simp only [Violation.earlier, Bool.or_eq_true, Bool.and_eq_true, decide_eq_true_eq]

theorem lowest_eq_none (l : List Violation) : lowest l = none ↔ l = [] := by
  cases l with
  | nil => exact ⟨fun _ => rfl, fun _ => rfl⟩
  | cons x l =>
    refine ⟨fun h => ?_, nofun⟩
    unfold lowest at h
    split at h
    · exact nomatch h
    · split at h <;> exact nomatch h

/-- R19: the violation reported is one of the list, and no other precedes it. -/
theorem lowest_spec {l : List Violation} : ∀ {v : Violation}, lowest l = some v →
    v ∈ l ∧ ∀ x ∈ l, v.pos < x.pos ∨ (v.pos = x.pos ∧ v.reason.code ≤ x.reason.code) := by
  induction l with
  | nil => exact fun h => nomatch h
  | cons x l ih =>
    intro v h
    unfold lowest at h
    split at h
    next hl =>
      obtain rfl := Option.some.inj h
      rw [lowest_eq_none] at hl
      simp [hl]
    next y hl =>
      obtain ⟨hy, hmin⟩ := ih hl
      split at h
      next he =>
        obtain rfl := Option.some.inj h
        rw [Violation.earlier_iff] at he
        refine ⟨List.mem_cons_self, fun z hz => ?_⟩
        rcases List.mem_cons.mp hz with rfl | hz
        · exact .inr ⟨rfl, le_rfl⟩
        · have := hmin z hz
          omega
      next he =>
        obtain rfl := Option.some.inj h
        rw [Violation.earlier_iff] at he
        refine ⟨List.mem_cons_of_mem _ hy, fun z hz => ?_⟩
        rcases List.mem_cons.mp hz with rfl | hz
        · omega
        · exact hmin z hz

/-! ### Where the checks stand (R12 to R17) -/

theorem mem_check {x : Violation} {ok : Bool} {pos : Nat} {r : Reason} :
    x ∈ check ok pos r ↔ ok = false ∧ x = { pos := pos, reason := r } := by
  cases ok <;> simp [check]

theorem Bank.violations_of_count {b : Bank} {m : Memory} (h : 2 ≤ b.towerCount ∧ b.towerCount ≤ 12) :
    b.violations m =
      b.checkSite ++ elements.flatMap b.checkElement ++ (List.finRange 4).flatMap (b.checkPattern m) :=
  if_pos ((within_iff 2 12 _).mpr h)

theorem Bank.mem_violations_of_site {b : Bank} {m : Memory} {x : Violation}
    (h : 2 ≤ b.towerCount ∧ b.towerCount ≤ 12) (hx : x ∈ b.checkSite) : x ∈ b.violations m := by
  rw [Bank.violations_of_count h]
  exact List.mem_append_left _ (List.mem_append_left _ hx)

theorem Bank.mem_violations_of_element {b : Bank} {m : Memory} {x : Violation}
    (h : 2 ≤ b.towerCount ∧ b.towerCount ≤ 12) (e : Elem) (hx : x ∈ b.checkElement e) : x ∈ b.violations m := by
  rw [Bank.violations_of_count h]
  exact List.mem_append_left _ (List.mem_append_right _ (List.mem_flatMap.mpr ⟨e, List.mem_finRange e, hx⟩))

theorem Bank.mem_violations_of_pattern {b : Bank} {m : Memory} {x : Violation}
    (h : 2 ≤ b.towerCount ∧ b.towerCount ≤ 12) (p : Pat) (hx : x ∈ b.checkPattern m p) : x ∈ b.violations m := by
  rw [Bank.violations_of_count h]
  exact List.mem_append_right _ (List.mem_flatMap.mpr ⟨p, List.mem_finRange p, hx⟩)

theorem Bank.mem_installedTowers {b : Bank} {t : Tower} (h : t.val < b.towerCount) : t ∈ b.installedTowers :=
  List.mem_filter.mpr ⟨List.mem_finRange t, decide_eq_true h⟩

section
variable {b : Bank} {m : Memory} {p : Pat} {x : Violation}

theorem Bank.mem_checkPattern_of_header (hd : b.patDefined p = true) (hx : x ∈ b.checkHeader m p) :
    x ∈ b.checkPattern m p := by
  rw [Bank.checkPattern, if_pos hd]
  simp only [List.mem_append, hx, true_or, or_true]

theorem Bank.mem_checkPattern_of_target (hd : b.patDefined p = true) {t : Tower} (ht : t.val < b.towerCount)
    (hx : x ∈ b.checkTarget m p t) : x ∈ b.checkPattern m p := by
  have hmem : x ∈ b.installedTowers.flatMap (b.checkTarget m p) :=
    List.mem_flatMap.mpr ⟨t, Bank.mem_installedTowers ht, hx⟩
  rw [Bank.checkPattern, if_pos hd]
  simp only [List.mem_append, hmem, true_or, or_true]

theorem Bank.mem_checkPattern_of_actuator (hd : b.patDefined p = true) {k : Nat} (hk : k < 16)
    (hx : x ∈ b.checkActuator p k) : x ∈ b.checkPattern m p := by
  have hmem : x ∈ (List.range 16).flatMap (b.checkActuator p) := List.mem_flatMap.mpr ⟨k, List.mem_range.mpr hk, hx⟩
  rw [Bank.checkPattern, if_pos hd]
  simp only [List.mem_append, hmem, true_or, or_true]

theorem Bank.mem_checkPattern_of_step (hd : b.patDefined p = true) {k : Nat} (hk : k < b.u8 (switchAddr p))
    (hcount : b.u8 (switchAddr p) ≤ 63) (hx : x ∈ b.checkStep p (b.u8 (switchAddr p)) k) : x ∈ b.checkPattern m p := by
  have hmem : x ∈ (List.range (b.u8 (switchAddr p))).flatMap (b.checkStep p (b.u8 (switchAddr p))) :=
    List.mem_flatMap.mpr ⟨k, List.mem_range.mpr hk, hx⟩
  rw [Bank.checkPattern, if_pos hd]
  simp only [List.mem_append, if_pos hcount, hmem, or_true]

end

/-! ### A violation of each reason -/

/-- The checks of one tower of the site record (R12). -/
def Bank.checkTower (b : Bank) (t : Tower) : List Violation :=
  check (within 1 15 (b.tsuNode t)) (1 + t.val) .range ++
  check (!(within 1 15 (b.tsuNode t)) || !(b.installedTowers.any fun u => decide (u < t) && b.tsuNode u == b.tsuNode t))
    (1 + t.val) .nodeClash ++
  check (within 0 1 (b.u8 (33 + t.val))) (33 + t.val) .range

theorem Bank.mem_checkSite_of_tower {b : Bank} {x : Violation} {t : Tower} (ht : t.val < b.towerCount)
    (hx : x ∈ b.checkTower t) : x ∈ b.checkSite := by
  have hmem : x ∈ b.installedTowers.flatMap b.checkTower := List.mem_flatMap.mpr ⟨t, Bank.mem_installedTowers ht, hx⟩
  have hsite : ∃ l, b.checkSite = b.installedTowers.flatMap b.checkTower ++ l := by
    unfold Bank.checkSite Bank.checkTower
    simp only [List.append_assoc]
    exact ⟨_, rfl⟩
  obtain ⟨l, hl⟩ := hsite
  rw [hl]
  exact List.mem_append_left _ hmem

/-- R12: the node of a tower lies outside 1..15. -/
theorem Bank.range_mem_checkTower {b : Bank} {t : Tower} (h : b.tsuNode t = 0 ∨ 15 < b.tsuNode t) :
    { pos := 1 + t.val, reason := .range } ∈ b.checkTower t := by
  have hnode : within 1 15 (b.tsuNode t) = false := by rw [← Bool.not_eq_true, within_iff]; omega
  simp only [Bank.checkTower, List.mem_append, mem_check, hnode, and_self, true_or]

/-- R12: the node of a tower is that of a tower before it. -/
theorem Bank.nodeClash_mem_checkTower {b : Bank} {t u : Tower} (hu : u.val < b.towerCount) (hut : u < t)
    (h1 : 1 ≤ b.tsuNode t) (h15 : b.tsuNode t ≤ 15) (h : b.tsuNode u = b.tsuNode t) :
    { pos := 1 + t.val, reason := .nodeClash } ∈ b.checkTower t := by
  have hnode : within 1 15 (b.tsuNode t) = true := (within_iff _ _ _).mpr ⟨h1, h15⟩
  have hany : (b.installedTowers.any fun u => decide (u < t) && b.tsuNode u == b.tsuNode t) = true :=
    List.any_eq_true.mpr ⟨u, Bank.mem_installedTowers hu, by simp [hut, h]⟩
  simp only [Bank.checkTower, List.mem_append, mem_check, hnode, hany, Bool.not_true, Bool.or_self, and_self, or_true,
    true_or]

/-- R13: as many entries of a kind stand before an index as a count by numbers finds. -/
theorem Bank.before_eq (b : Bank) (code : Nat) (e : Elem) :
    b.before code e = ((List.range e.val).filter fun f => b.u8 (128 + 8 * f) / 64 == code).length := by
  let P : Nat → Bool := fun f => decide (f < e.val) && b.u8 (128 + 8 * f) / 64 == code
  have hall : b.before code e = ((List.range 40).filter P).length := by
    have hrange : List.range 40 = elements.map Fin.val := by decide
    rw [hrange, List.filter_map, List.length_map]
    rfl
  have hsplit : List.range 40 = List.range e.val ++ (List.range (40 - e.val)).map (e.val + ·) := by
    rw [← List.range_add, Nat.add_sub_cancel' (by omega)]
  rw [hall, hsplit, List.filter_append, List.length_append]
  have hlow : (List.range e.val).filter P = (List.range e.val).filter fun f => b.u8 (128 + 8 * f) / 64 == code :=
    List.filter_congr fun f hf => by simp [P, List.mem_range.mp hf]
  have hhigh : ((List.range (40 - e.val)).map (e.val + ·)).filter P = [] := by
    rw [List.filter_eq_nil_iff]
    intro f hf
    obtain ⟨k, -, rfl⟩ := List.mem_map.mp hf
    simp [P]
  rw [hlow, hhigh, List.length_nil, Nat.add_zero]

/-- R13: a contactor behind 32 others. -/
theorem Bank.elementLimit_mem_checkElement {b : Bank} {e : Elem} (hcode : b.elemKindCode e = 1)
    (h : 32 ≤ b.before 1 e) : { pos := elemAddr e, reason := .elementLimit } ∈ b.checkElement e := by
  have hlimit : decide (b.before 1 e < 32) = false := decide_eq_false (by omega)
  simp only [Bank.checkElement, hcode, if_true, List.mem_append, mem_check, hlimit, and_self, or_true]

section
variable {b : Bank} {m : Memory} {p : Pat}

/-- R14: the reference tower is DARK. -/
theorem Bank.refRole_mem_checkHeader (href : b.u8 (patAddr p + 1) < b.towerCount)
    (h : b.u8 (targetAddr p (towerOf (b.u8 (patAddr p + 1)))) = 2) :
    { pos := patAddr p + 1, reason := .refRole } ∈ b.checkHeader m p := by
  simp only [Bank.checkHeader, List.mem_append, mem_check, h, href, decide_true, bne_self_eq_false, Bool.not_true,
    Bool.or_self, and_self, true_or, or_true]

/-- R14: the operating level lies above the licensed level. -/
theorem Bank.levelOverLicence_mem_checkHeader (hop : b.operatingLevel p ≤ 1000)
    (h : m.licensedLevel p < b.operatingLevel p) :
    { pos := patAddr p + 2, reason := .levelOverLicence } ∈ b.checkHeader m p := by
  have hok : (decide (1000 < b.operatingLevel p) || decide (b.operatingLevel p ≤ m.licensedLevel p)) = false := by
    simp only [Bool.or_eq_false_iff, decide_eq_false_iff_not]
    omega
  simp only [Bank.checkHeader, List.mem_append, mem_check, hok, and_self, true_or, or_true]

/-- R14: the trim level lies above the operating level. -/
theorem Bank.levelOrder_mem_checkHeader (ht : b.trimLevel p ≤ 1000) (h : b.operatingLevel p < b.trimLevel p) :
    { pos := patAddr p + 4, reason := .levelOrder } ∈ b.checkHeader m p := by
  have hok : (decide (1000 < b.operatingLevel p) || decide (1000 < b.trimLevel p) ||
      decide (b.trimLevel p ≤ b.operatingLevel p)) = false := by
    simp only [Bool.or_eq_false_iff, decide_eq_false_iff_not]
    omega
  simp only [Bank.checkHeader, List.mem_append, mem_check, hok, and_self, true_or, or_true]

/-- R15: a LIT tower's ratio tolerance lies above what the licence permits it. -/
theorem Bank.tolOverLicence_mem_checkTarget {t : Tower} (hlit : b.u8 (targetAddr p t) = 1)
    (href : b.u8 (patAddr p + 1) ≠ t.val) (htol : b.u8 (targetAddr p t + 5) ≤ 200)
    (h : m.licensedRatioTol p t < b.u8 (targetAddr p t + 5)) :
    { pos := targetAddr p t + 5, reason := .tolOverLicence } ∈ b.checkTarget m p t := by
  have hin : within 1 200 (b.target p t).ratioTol = true := (within_iff _ _ _).mpr ⟨Nat.one_le_of_lt h, htol⟩
  have hok : decide ((b.target p t).ratioTol ≤ m.licensedRatioTol p t) = false := decide_eq_false (not_le.mpr h)
  simp only [Bank.checkTarget, List.mem_append, if_pos (And.intro hlit href), mem_check, hin, hok, Bool.not_true,
    Bool.or_self, and_self, true_or, or_true]

theorem Bank.used_ne_255 {i : Nat} (h : i < 40) : i ≠ 255 := by omega

/-- R16: an actuator entry that names an element of another kind. -/
theorem Bank.elementKind_mem_checkActuator {k : Nat} (hi : b.u8 (actuatorAddr p k) < 40)
    (h : b.elemKindCode (elemOf (b.u8 (actuatorAddr p k))) ≠ 2) :
    { pos := actuatorAddr p k, reason := .elementKind } ∈ b.checkActuator p k := by
  have hok : (b.elemKindCode (elemOf (b.u8 (actuatorAddr p k))) == 2) = false := beq_false_of_ne h
  simp only [Bank.checkActuator, if_neg (Bank.used_ne_255 hi), if_pos hi, List.mem_append, mem_check, hok, and_self,
    true_or, or_true]

/-- R16: an actuator entry that names an element an earlier entry names. -/
theorem Bank.actuatorTwice_mem_checkActuator {j k : Nat} (hi : b.u8 (actuatorAddr p k) < 40) (hj : j < k)
    (h : b.u8 (actuatorAddr p j) = b.u8 (actuatorAddr p k)) :
    { pos := actuatorAddr p k, reason := .actuatorTwice } ∈ b.checkActuator p k := by
  have hany : ((List.range k).any fun j => b.u8 (actuatorAddr p j) == b.u8 (actuatorAddr p k)) = true :=
    List.any_eq_true.mpr ⟨j, List.mem_range.mpr hj, by simp [h]⟩
  simp only [Bank.checkActuator, if_neg (Bank.used_ne_255 hi), if_pos hi, List.mem_append, mem_check, hany,
    Bool.not_true, and_self, true_or, or_true]

/-- R16: a preset outside the positions of its actuator. -/
theorem Bank.presetRange_mem_checkActuator {k : Nat} (hi : b.u8 (actuatorAddr p k) < 40)
    (h : b.u16 (actuatorAddr p k + 10) < b.posMin (elemOf (b.u8 (actuatorAddr p k))) ∨
      b.posMax (elemOf (b.u8 (actuatorAddr p k))) < b.u16 (actuatorAddr p k + 10)) :
    { pos := actuatorAddr p k + 10, reason := .presetRange } ∈ b.checkActuator p k := by
  have hok : within (b.posMin (elemOf (b.u8 (actuatorAddr p k)))) (b.posMax (elemOf (b.u8 (actuatorAddr p k))))
      (b.u16 (actuatorAddr p k + 10)) = false := by
    rw [← Bool.not_eq_true, within_iff]
    omega
  simp only [Bank.checkActuator, if_neg (Bank.used_ne_255 hi), if_pos hi, List.mem_append, mem_check, hok, and_self,
    true_or, or_true]

/-- The address of step k of switch list p. -/
def stepAddr (p : Pat) (k : Nat) : Nat := 1732 + 256 * p.val + 4 * k

theorem Bank.checkStep_eq (b : Bank) (p : Pat) (count k : Nat) : b.checkStep p count k =
    check (decide (b.u8 (stepAddr p k) < 40)) (stepAddr p k) .range ++
    (if b.u8 (stepAddr p k) < 40 then
      check (b.elemKindCode (elemOf (b.u8 (stepAddr p k))) == 1) (stepAddr p k) .elementKind ++
      check (decide (((List.range k).filter fun j => b.u8 (stepAddr p j) == b.u8 (stepAddr p k)).length < 2))
        (stepAddr p k) .listRepeat ++
      check (((List.range count).any fun j => decide (k < j) && b.u8 (stepAddr p j) == b.u8 (stepAddr p k)) ||
          !(within 1 2 (b.u8 (stepAddr p k + 1))) ||
          b.required p (elemOf (b.u8 (stepAddr p k))) == (b.switchStep p k).action) (stepAddr p k) .listFinal
    else []) ++
    check (within 1 2 (b.u8 (stepAddr p k + 1))) (stepAddr p k + 1) .range ++
    check (within 0 63 (b.u8 (stepAddr p k + 2))) (stepAddr p k + 2) .range ++
    check (decide (k = 0) || decide (63 < b.u8 (stepAddr p k + 2)) || decide (63 < b.u8 (stepAddr p (k - 1) + 2)) ||
        decide (b.u8 (stepAddr p (k - 1) + 2) ≤ b.u8 (stepAddr p k + 2)))
      (stepAddr p k + 2) .groupOrder := by
  have haddr : ∀ j, switchAddr p + 4 + 4 * j = stepAddr p j := fun j => by simp only [switchAddr, stepAddr]; omega
  simp only [Bank.checkStep, haddr]

/-- R17: the action of a step, by its byte. -/
theorem Bank.switchStep_action (b : Bank) (p : Pat) (k : Nat) :
    (b.switchStep p k).action = if b.u8 (stepAddr p k + 1) = 1 then .opened else .closed := by
  have haddr : switchAddr p + 4 + 4 * k = stepAddr p k := by simp only [switchAddr, stepAddr]; omega
  simp only [Bank.switchStep, haddr]

/-- R17: a group number below that of the step before. -/
theorem Bank.groupOrder_mem_checkStep {count j : Nat} (h : b.u8 (stepAddr p (j + 1) + 2) < b.u8 (stepAddr p j + 2))
    (h63 : b.u8 (stepAddr p j + 2) ≤ 63) :
    { pos := stepAddr p (j + 1) + 2, reason := .groupOrder } ∈ b.checkStep p count (j + 1) := by
  have hok : (decide (j + 1 = 0) || decide (63 < b.u8 (stepAddr p (j + 1) + 2)) ||
      decide (63 < b.u8 (stepAddr p j + 2)) || decide (b.u8 (stepAddr p j + 2) ≤ b.u8 (stepAddr p (j + 1) + 2))) =
      false := by
    simp only [Bool.or_eq_false_iff, decide_eq_false_iff_not]
    omega
  rw [Bank.checkStep_eq, List.mem_append]
  exact .inr (mem_check.mpr ⟨hok, rfl⟩)

/-- R17: a third step of a contactor. -/
theorem Bank.listRepeat_mem_checkStep {count i j k : Nat} (hk : b.u8 (stepAddr p k) < 40) (hij : i < j) (hjk : j < k)
    (hi : b.u8 (stepAddr p i) = b.u8 (stepAddr p k)) (hj : b.u8 (stepAddr p j) = b.u8 (stepAddr p k)) :
    { pos := stepAddr p k, reason := .listRepeat } ∈ b.checkStep p count k := by
  have hmem : ∀ a, a < k → b.u8 (stepAddr p a) = b.u8 (stepAddr p k) →
      a ∈ ((List.range k).filter fun j => b.u8 (stepAddr p j) == b.u8 (stepAddr p k)).toFinset := by
    intro a ha h
    simp [ha, h]
  have htwo : 1 < ((List.range k).filter fun j => b.u8 (stepAddr p j) == b.u8 (stepAddr p k)).length := by
    rw [← List.toFinset_card_of_nodup (List.nodup_range.filter _)]
    exact Finset.one_lt_card.mpr ⟨i, hmem i (by omega) hi, j, hmem j hjk hj, by omega⟩
  have hok : decide (((List.range k).filter fun j => b.u8 (stepAddr p j) == b.u8 (stepAddr p k)).length < 2) = false :=
    decide_eq_false (by omega)
  simp only [Bank.checkStep_eq, if_pos hk, List.mem_append, mem_check, hok, and_self, true_or, or_true]

/-- R17: the last step of a contactor leaves it in the state the contactor set does not ask for. -/
theorem Bank.listFinal_mem_checkStep {count k : Nat} (hk : b.u8 (stepAddr p k) < 40)
    (hlast : ∀ j, k < j → j < count → b.u8 (stepAddr p j) ≠ b.u8 (stepAddr p k))
    (hcode : 1 ≤ b.u8 (stepAddr p k + 1) ∧ b.u8 (stepAddr p k + 1) ≤ 2)
    (h : b.required p (elemOf (b.u8 (stepAddr p k))) ≠ (b.switchStep p k).action) :
    { pos := stepAddr p k, reason := .listFinal } ∈ b.checkStep p count k := by
  have hlater : ((List.range count).any fun j => decide (k < j) && b.u8 (stepAddr p j) == b.u8 (stepAddr p k)) =
      false := by
    rw [List.any_eq_false]
    intro j hj
    by_cases hkj : k < j
    · simp [hlast j hkj (List.mem_range.mp hj)]
    · simp [hkj]
  have haction : (b.required p (elemOf (b.u8 (stepAddr p k))) == (b.switchStep p k).action) = false := beq_false_of_ne h
  have hin : within 1 2 (b.u8 (stepAddr p k + 1)) = true := (within_iff _ _ _).mpr hcode
  simp only [Bank.checkStep_eq, if_pos hk, List.mem_append, mem_check, hlater, haction, hin, Bool.not_true,
    Bool.or_self,
    and_self, true_or, or_true]

/-- R15: the state that the contactor set requires, by its bit. -/
theorem Bank.required_eq (b : Bank) (p : Pat) (e : Elem) : b.required p e =
    if (b.u8 (patAddr p + 17 + e.val / 8)).testBit (7 - e.val % 8) = true then .closed else .opened := by
  rw [Bank.required, Nat.testBit_eq_decide_div_mod_eq]
  simp only [decide_eq_true_eq]

end

theorem elemOf_val {i : Nat} (h : i < 40) : (elemOf i).val = i := Nat.mod_eq_of_lt h

theorem towerOf_val {i : Nat} (h : i < 12) : (towerOf i).val = i := Nat.mod_eq_of_lt h

/-! ### COMMIT (R18) -/

theorem exec_commit_of_none {src tag : Byte} {s : State} (h : s.part.taking)
    (hv : s.part.tables.mem.validate = none) : exec (.commit src tag) s = .next
      { s with part := (s.part.setStaged .ready).answered (mgmtReply src tag 3 0 []) } := by
  have hop : ((s.part.setRaised []).linkAlive .station).commit src tag =
      (((s.part.setStaged .ready).stationHeard).replied (mgmtReply src tag 3 0 [])).setRaised [] := by
    have hv' : ((s.part.setRaised []).linkAlive .station).tables.mem.validate = none := hv
    unfold Part.commit
    rw [hv']
    exact Part.answer_eq ..
  exact State.run_event_of_none (op := fun s => (s.linkAlive .station).commit src tag) h hop

theorem exec_commit_of_some {src tag : Byte} {s : State} {v : Violation} (h : s.part.taking)
    (hv : s.part.tables.mem.validate = some v) : exec (.commit src tag) s = .next
      { s with
        part := (s.part.setStaged .editing).answered (mgmtReply src tag 3 6
          [BitVec.ofNat 8 (v.pos / 64), BitVec.ofNat 8 (v.pos % 64), BitVec.ofNat 8 v.reason.code]) } := by
  have hop : ((s.part.setRaised []).linkAlive .station).commit src tag =
      (((s.part.setStaged .editing).stationHeard).replied (mgmtReply src tag 3 6
        [BitVec.ofNat 8 (v.pos / 64), BitVec.ofNat 8 (v.pos % 64), BitVec.ofNat 8 v.reason.code])).setRaised [] := by
    have hv' : ((s.part.setRaised []).linkAlive .station).tables.mem.validate = some v := hv
    unfold Part.commit
    rw [hv']
    exact Part.answer_eq ..
  exact State.run_event_of_none (op := fun s => (s.linkAlive .station).commit src tag) h hop

/-- Settles O11: the replies by the outcome of the validation, the outcome as the lowest violation, and each reason
by the check that finds it. -/
theorem commitReportsTheLowestViolation : Obligations.CommitReportsTheLowestViolation := by
  refine ⟨fun src tag s h => ⟨exec_commit_of_none h, fun v hv => exec_commit_of_some h hv⟩,
    fun m => ⟨lowest_eq_none _, fun v hv => lowest_spec hv, fun hcount => ?_⟩, fun m => ?_⟩
  · have hout : ¬within 2 12 (stagedBank m).towerCount = true := fun hin => by
      have hin' : 2 ≤ (m.read 1024).toNat ∧ (m.read 1024).toNat ≤ 12 := (within_iff _ _ _).mp hin
      omega
    rw [Memory.validate, Bank.violations, if_neg hout]
    rfl
  intro b w licence reported h2 h12
  have hcount : 2 ≤ (stagedBank m).towerCount ∧ (stagedBank m).towerCount ≤ 12 := ⟨h2, h12⟩
  refine ⟨fun t u hut ht => ?_, fun e he hcode hlimit => ?_, fun p hp => ?_⟩
  · have hsite := fun r => Bank.mem_violations_of_site (m := m) (x := ⟨1 + t, r⟩) hcount
    have htower := fun r => Bank.mem_checkSite_of_tower (b := stagedBank m) (x := ⟨1 + t, r⟩) (t := ⟨t, by omega⟩) ht
    exact ⟨fun h => hsite _ (htower _ (Bank.range_mem_checkTower h)), fun h1 h15 h =>
      hsite _ (htower _ (Bank.nodeClash_mem_checkTower (u := ⟨u, by omega⟩) (hut.trans ht) hut h1 h15 h))⟩
  · refine Bank.mem_violations_of_element hcount ⟨e, he⟩ (Bank.elementLimit_mem_checkElement hcode ?_)
    rw [Bank.before_eq]
    exact hlimit
  intro h hd
  have hpattern := fun x => Bank.mem_violations_of_pattern (x := x) (m := m) hcount ⟨p, hp⟩
  have hdefined : (stagedBank m).patDefined ⟨p, hp⟩ = true := beq_iff_eq.mpr hd
  refine ⟨fun href hrole => ?_, fun hop hlic => ?_, fun hlt htrim => ?_, fun t ht htref => ?_, fun k hk => ?_,
    fun k hk h63 => ?_⟩
  · refine hpattern _ (Bank.mem_checkPattern_of_header hdefined (Bank.refRole_mem_checkHeader href ?_))
    have haddr : targetAddr ⟨p, hp⟩ (towerOf ((stagedBank m).u8 (patAddr ⟨p, hp⟩ + 1))) = h + 24 + 8 * b (h + 1) :=
      congrArg (fun i => h + 24 + 8 * i) (towerOf_val (lt_of_lt_of_le href h12))
    rw [haddr]
    exact hrole
  · refine hpattern _ (Bank.mem_checkPattern_of_header hdefined (Bank.levelOverLicence_mem_checkHeader hop ?_))
    exact lt_of_le_of_lt (Nat.min_le_left _ _) hlic
  · exact hpattern _ (Bank.mem_checkPattern_of_header hdefined (Bank.levelOrder_mem_checkHeader htrim hlt))
  · exact fun hlit htol hlic => hpattern _ (Bank.mem_checkPattern_of_target hdefined (t := ⟨t, by omega⟩) ht
      (Bank.tolOverLicence_mem_checkTarget hlit (Ne.symm htref) htol hlic))
  · intro a e hi
    have hactuator := fun x hx => hpattern x (Bank.mem_checkPattern_of_actuator hdefined hk hx)
    have haddr : elemAddr (elemOf ((stagedBank m).u8 (actuatorAddr ⟨p, hp⟩ k))) = e :=
      congrArg (fun i => 128 + 8 * i) (elemOf_val hi)
    refine ⟨fun hkind => hactuator _ (Bank.elementKind_mem_checkActuator hi ?_), fun j hj hsame =>
      hactuator _ (Bank.actuatorTwice_mem_checkActuator hi hj hsame), fun hpreset =>
      hactuator _ (Bank.presetRange_mem_checkActuator hi ?_)⟩
    · rw [Bank.elemKindCode, haddr]
      exact hkind
    · rw [Bank.posMin, Bank.posMax, haddr]
      exact hpreset
  · intro step a
    have hlist := fun x hx => hpattern x (Bank.mem_checkPattern_of_step hdefined hk h63 hx)
    refine ⟨fun j hj hlt hin => ?_, fun hi => ⟨fun i j hij hjk hsi hsj => ?_, fun hlast hbit => ?_⟩⟩
    · subst hj
      exact hlist _ (Bank.groupOrder_mem_checkStep hlt hin)
    · exact hlist _ (Bank.listRepeat_mem_checkStep hi hij hjk hsi hsj)
    · refine hlist _ (Bank.listFinal_mem_checkStep hi hlast ?_ ?_)
      · show 1 ≤ b (a + 1) ∧ b (a + 1) ≤ 2
        omega
      · have helem : (elemOf ((stagedBank m).u8 (stepAddr ⟨p, hp⟩ k))).val = b a := elemOf_val hi
        rw [Bank.required_eq, Bank.switchStep_action, helem]
        show (if (b (h + 17 + b a / 8)).testBit (7 - b a % 8) = true then Contact.closed else .opened) ≠
          if b (a + 1) = 1 then .opened else .closed
        rcases hbit with ⟨h1, hset⟩ | ⟨h2, hset⟩
        · rw [if_pos hset, if_pos h1]
          nofun
        · rw [if_neg (by rw [hset]; nofun), if_neg (by omega)]
          nofun

end Sys2Proof.Machine
end

section
/-! SUPPORT. What a promotion does to the banks and to the elements. -/

namespace Sys2Proof.Machine

/-! ### Banks across a promotion (R9) -/

/-- R9: a promoted bank reads as the staged bank did. -/
theorem Bank.u8_promote {m : Memory} (h : m.wf = true) {a : Nat} (ha : a < 2752) :
    (activeBank m.promote).u8 a = (stagedBank m).u8 a := by
  obtain ⟨-, hread⟩ := Memory.promote_spec h
  have hcell : m.promote.read (5120 + a) = m.read (1024 + a) := by
    have haddr : 5120 + a - 4096 = 1024 + a := by omega
    rw [hread, if_pos (by omega), haddr]
  exact congrArg BitVec.toNat hcell

section
variable {m : Memory} (h : m.wf = true)
include h

theorem Bank.towerCount_promote : (activeBank m.promote).towerCount = (stagedBank m).towerCount :=
  Bank.u8_promote h (by omega)

theorem Bank.tsuNode_promote (t : Tower) : (activeBank m.promote).tsuNode t = (stagedBank m).tsuNode t :=
  Bank.u8_promote h (by omega)

theorem Bank.patDefined_promote (p : Pat) : (activeBank m.promote).patDefined p = (stagedBank m).patDefined p := by
  rw [Bank.patDefined, Bank.patDefined, Bank.u8_promote h (by unfold patAddr; omega)]

theorem Bank.scheduleEnable_promote : (activeBank m.promote).scheduleEnable = (stagedBank m).scheduleEnable := by
  rw [Bank.scheduleEnable, Bank.scheduleEnable, Bank.u8_promote h (by omega)]

theorem Bank.identity_promote (e : Elem) : (activeBank m.promote).identity e = (stagedBank m).identity e := by
  have h0 := Bank.u8_promote h (a := elemAddr e) (by unfold elemAddr; omega)
  have h1 := Bank.u8_promote h (a := elemAddr e + 1) (by unfold elemAddr; omega)
  rw [Bank.identity, Bank.identity, Bank.elemKindCode, Bank.elemKindCode, Bank.elemNode, Bank.elemNode,
    Bank.elemChannel, Bank.elemChannel, h0, h1]

end

/-- R10: the installed towers change exactly where a promotion does not keep them. -/
theorem Part.towersChanged_iff {s : Part} (h : s.tables.mem.wf = true) :
    towersChanged s.bank (activeBank s.tables.mem.promote) = false ↔ s.keepsTowers := by
  have hmem : ∀ t, t ∈ (activeBank s.tables.mem.promote).installedTowers ↔
      t.val < (stagedBank s.tables.mem).towerCount := fun t => by
    rw [Bank.installedTowers, List.mem_filter, Bank.installed, decide_eq_true_eq, Bank.towerCount_promote h]
    exact and_iff_right (List.mem_finRange t)
  unfold Part.keepsTowers towersChanged
  rw [Bool.or_eq_false_iff, decide_eq_false_iff_not, not_not, List.any_eq_false, Bank.towerCount_promote h]
  constructor
  · rintro ⟨hcount, hnodes⟩
    refine ⟨hcount.symm, fun k hk => ?_⟩
    have hk' : k.val < (stagedBank s.tables.mem).towerCount := hcount ▸ of_decide_eq_true hk
    have hn := hnodes k ((hmem k).mpr hk')
    rw [decide_eq_true_eq, not_not, Bank.tsuNode_promote h] at hn
    exact hn.symm
  · rintro ⟨hcount, hnodes⟩
    refine ⟨hcount.symm, fun k hk => ?_⟩
    rw [decide_eq_true_eq, not_not, Bank.tsuNode_promote h]
    exact (hnodes k (decide_eq_true (hcount ▸ (hmem k).mp hk))).symm

/-! ### What the reset of elements and a change of towers leave (R10) -/

/-- The part without what the reset of an element may touch: the records of the elements and of faults, the Trim
Engine, the round, the field-bound queue and the restore count. -/
def Part.offElements (s : Part) : Part :=
  { s with
    round := Part.cold.round, elems := Part.cold.elems, trim := Part.cold.trim, faults := Part.cold.faults
    seq := { s.seq with restore := 0 }
    field := { s.field with queue := [] } }

/-- The part without what a change of the installed towers may touch as well: the monitor and the readings. -/
def Part.offMonitor (s : Part) : Part :=
  { s.offElements with
    store := Part.cold.store, corr := Part.cold.corr, table := Part.cold.table, raised := [] }

theorem Part.endRecords_offElements (s : Part) (p : FaultRecord → Bool) :
    (s.endRecords p).offElements = s.offElements := by
  rw [Part.endRecords_eq]
  rcases Part.endRecords_seq_cases s p with h | h <;> rw [h] <;> rfl

theorem Part.endRecords_elems (s : Part) (p : FaultRecord → Bool) : (s.endRecords p).elems = s.elems := by
  rw [Part.endRecords_eq]
  rfl

theorem Part.resetElement_offElements (s : Part) (e : Elem) : (s.resetElement e).offElements = s.offElements := by
  unfold Part.resetElement
  refine (Part.endRecords_offElements _ _).trans ?_
  split <;> rfl

theorem Part.resetElement_elems (s : Part) (e : Elem) : (s.resetElement e).elems = setAt s.elems e .fresh := by
  unfold Part.resetElement
  refine (Part.endRecords_elems _ _).trans ?_
  split <;> rfl

theorem Part.resetElements_offElements (l : List Elem) : ∀ s : Part,
    (l.foldl Part.resetElement s).offElements = s.offElements := by
  induction l with
  | nil => exact fun _ => rfl
  | cons e l ih => exact fun s => (ih _).trans (s.resetElement_offElements e)

theorem setAt_getElem {α : Type} {n : Nat} (v : Vector α n) (i j : Fin n) (x : α) :
    (setAt v i x)[j] = if i = j then x else v[j] := by
  simp only [setAt, Fin.getElem_fin, Vector.getElem_set, Fin.ext_iff]

theorem Part.resetElements_elems (l : List Elem) (e : Elem) : ∀ s : Part,
    (l.foldl Part.resetElement s).elems[e] = if e ∈ l then .fresh else s.elems[e] := by
  induction l with
  | nil => exact fun s => (if_neg List.not_mem_nil).symm
  | cons x l ih =>
    intro s
    rw [List.foldl_cons, ih, Part.resetElement_elems, setAt_getElem]
    by_cases hl : e ∈ l
    · rw [if_pos hl, if_pos (List.mem_cons_of_mem _ hl)]
    · rw [if_neg hl]
      by_cases hx : x = e
      · rw [if_pos hx, if_pos (hx ▸ List.mem_cons_self)]
      · rw [if_neg hx, if_neg]
        simp [hl, Ne.symm hx]

theorem Part.endStale_offElements (ts : List Tower) : ∀ s : Part, (s.endStale ts).offElements = s.offElements := by
  induction ts with
  | nil => exact fun _ => rfl
  | cons t ts ih => exact fun s => (ih _).trans (Part.endRecords_offElements _ _)

theorem Part.endStale_elems (ts : List Tower) : ∀ s : Part, (s.endStale ts).elems = s.elems := by
  induction ts with
  | nil => exact fun _ => rfl
  | cons t ts ih => exact fun s => (ih _).trans (Part.endRecords_elems _ _)

/-- R121: what a restart leaves of the elements. -/
theorem Part.restart_elems (s : Part) (c : MonitorConfig) :
    (s.restart c).elems = mapAll s.elems fun _ r => { r with settleCount := 0 } := by
  have hclear : ∀ s : Part, (s.restartState c).clearSettle.elems =
      mapAll s.elems fun _ r => { r with settleCount := 0 } := fun _ => rfl
  rw [Part.restart, hclear, Part.endStale_elems]

theorem Part.restart_offMonitor (s : Part) (c : MonitorConfig) : (s.restart c).offMonitor = s.offMonitor := by
  have hclear : ∀ s : Part, (s.restartState c).clearSettle.offMonitor = s.offMonitor := fun s => by cases s; rfl
  rw [Part.restart, hclear, Part.offMonitor, Part.endStale_offElements, Part.offMonitor]

end Sys2Proof.Machine
end

section
/-! SUPPORT. A change of the installed towers. -/

namespace Sys2Proof.Machine

/-! ### A change of the installed towers (R10, R34, R36) -/

theorem Part.restart_table (s : Part) (c : MonitorConfig) : (s.restart c).table =
    { s.table with readings := mapAll s.table.readings fun t r => r.restart (decide (t = c.refTower)) } := by
  have hstate : ∀ s : Part, (s.restartState c).clearSettle.table =
      { s.table with readings := mapAll s.table.readings fun t r => r.restart (decide (t = c.refTower)) } :=
      fun _ => rfl
  have hstale : (s.endStale s.staleTowers).offElements.table = s.offElements.table := by
    rw [Part.endStale_offElements]
  have htable : (s.endStale s.staleTowers).table = s.table := hstale
  rw [Part.restart, hstate, htable]

theorem Part.restart_store (s : Part) (c : MonitorConfig) : (s.restart c).store =
    { entries := s.store.entries.map fun e => { e with epoch := false }, epochStart := s.timer.index + 1 } := by
  have hstate : ∀ s : Part, (s.restartState c).clearSettle.store =
      { entries := s.store.entries.map fun e => { e with epoch := false }, epochStart := s.timer.index + 1 } :=
    fun _ => rfl
  have hstale : ∀ {β : Type} (f : Part → β), f (s.endStale s.staleTowers).offElements = f s.offElements := fun f => by
    rw [Part.endStale_offElements]
  have hstore : (s.endStale s.staleTowers).store = s.store := hstale Part.store
  have htimer : (s.endStale s.staleTowers).timer = s.timer := hstale Part.timer
  rw [Part.restart, hstate, hstore, htimer]

theorem Part.restart_accums (s : Part) (c : MonitorConfig) :
    (s.restart c).corr.accums = Vector.replicate 12 Accum.clear := by
  rw [Part.restart]
  rfl

/-- R34, R36: the part with the quiet runs at 0 and every entry pruned. -/
def Part.pruned (s : Part) : Part :=
  (s.setTable { s.table with quietRuns := Vector.replicate 12 0 }).setStore
    { s.store with entries := s.store.entries.map fun e => e.prune s.bank.installed }

/-- R10: the part with the monitor restarted and QUIET evaluated behind that. -/
def Part.retowered (s : Part) : Part :=
  s.pruned.restartIdle.setTable { s.pruned.restartIdle.table with quiet := s.pruned.restartIdle.quietNow }

theorem Part.contactsInFlight_eq_nil {s : Part} (h : ∀ e : Elem, s.elems[e].contactInFlight = false) :
    s.contactsInFlight = [] := by
  rw [Part.contactsInFlight, List.filter_eq_nil_iff]
  intro e _
  rw [h e]
  nofun

theorem mapAll_getElem {α β : Type} {n : Nat} (v : Vector α n) (f : Fin n → α → β) (i : Fin n) :
    (mapAll v f)[i] = f i v[i] := by
  simp [mapAll]

theorem Part.retowered_elems (s : Part) :
    s.retowered.elems = mapAll s.elems fun _ r => { r with settleCount := 0 } := by
  rw [Part.retowered, Part.setTable_elems, Part.restartIdle, Part.restart_elems]
  rfl

theorem Part.retower_of_still {s : Part} (h : ∀ e : Elem, s.elems[e].contactInFlight = false) :
    s.retower = s.retowered := by
  have hstill : ∀ e : Elem, s.retowered.elems[e].contactInFlight = false := fun e => by
    rw [Part.retowered_elems, mapAll_getElem]
    exact h e
  have hraise : s.retowered.raiseRfInSwitch = s.retowered := by
    rw [Part.raiseRfInSwitch, Part.contactsInFlight_eq_nil hstill]
    rfl
  have hretower : s.retower =
      if (s.pruned.restartIdle.table.quiet && !s.retowered.table.quiet) = true then s.retowered.raiseRfInSwitch
      else s.retowered := rfl
  rw [hretower, hraise, ite_self]

theorem Part.retowered_offMonitor (s : Part) : s.retowered.offMonitor = s.offMonitor := by
  have hset : ∀ (p : Part) (x : ReadingTable), (p.setTable x).offMonitor = p.offMonitor := fun _ _ => rfl
  rw [Part.retowered, hset, Part.restartIdle, Part.restart_offMonitor]
  rfl

theorem Part.retowered_raised (s : Part) : s.retowered.raised = s.raised := by
  rw [Part.retowered, Part.setTable_raised, Part.restartIdle, Part.restart_raised]
  rfl

/-- R36: with every quiet run at 0, QUIET holds where no tower is installed. -/
theorem quietUnder_zero_iff (m : Memory) :
    quietUnder m (Vector.replicate 12 0) = true ↔ (activeBank m).towerCount = 0 := by
  unfold quietUnder
  rw [List.all_eq_true]
  constructor
  · intro h
    by_contra hne
    have hmem := Bank.mem_installedTowers (b := activeBank m) (t := 0) (Nat.pos_of_ne_zero hne)
    have := h 0 hmem
    simp at this
  · intro h t ht
    have hlt : t.val < (activeBank m).towerCount := of_decide_eq_true (List.mem_filter.mp ht).2
    omega

/-- R10, R34, R36, R38: what a change of the installed towers leaves of the monitor. -/
theorem Part.retowered_monitor (s : Part) :
    s.retowered.corr.config = s.bank.idleConfig ∧ (∀ k : Tower, s.retowered.corr.accums[k] = Accum.clear) ∧
      s.retowered.store.epochStart = s.timer.index + 1 ∧
      s.retowered.store.entries = s.store.entries.map (fun e =>
        { e with
          epoch := false
          refBlock := if s.bank.installed e.refTower then e.refBlock else none
          held := e.held.filter fun x => s.bank.installed x.1
          combined := e.combined.filter s.bank.installed }) ∧
      (∀ k : Tower, s.retowered.table.quietRuns[k] = 0 ∧ s.retowered.table.readings[k].state = .pending ∧
        s.retowered.table.readings[k].closes = 0 ∧ s.retowered.table.readings[k].age = 0) ∧
      (s.retowered.table.quiet = true ↔ s.bank.towerCount = 0) := by
  have hbank : s.pruned.bank = s.bank := rfl
  have hconfig : s.retowered.corr.config = s.bank.idleConfig := by
    rw [Part.retowered, Part.setTable_corr, Part.restartIdle, Part.restart_config, hbank]
  have haccums : s.retowered.corr.accums = Vector.replicate 12 Accum.clear := by
    rw [Part.retowered, Part.setTable_corr, Part.restartIdle, Part.restart_accums]
  have hstore : s.retowered.store =
      { entries := s.pruned.store.entries.map fun e => { e with epoch := false },
        epochStart := s.timer.index + 1 } := by
    rw [Part.retowered, Part.setTable_store, Part.restartIdle, Part.restart_store]
    rfl
  have htable : s.pruned.restartIdle.table = { s.pruned.table with
      readings := mapAll s.table.readings fun t r => r.restart (decide (t = s.bank.idleConfig.refTower)) } := by
    rw [Part.restartIdle, Part.restart_table, hbank]
    rfl
  have hset : s.retowered.table = { s.pruned.restartIdle.table with quiet := s.pruned.restartIdle.quietNow } := by
    rw [Part.retowered, Part.setTable_table]
  have hruns : s.retowered.table.quietRuns = Vector.replicate 12 0 := by
    rw [hset, htable]
    rfl
  have hreadings : s.retowered.table.readings = mapAll s.table.readings fun t r =>
      r.restart (decide (t = s.bank.idleConfig.refTower)) := by
    rw [hset, htable]
  have hquiet : s.retowered.table.quiet = quietUnder s.tables.mem (Vector.replicate 12 0) := by
    have htables : s.pruned.restartIdle.tables = s.tables := by
      rw [Part.restartIdle, Part.restart_tables]
      rfl
    rw [hset, Part.quietNow_eq, htables, htable]
    rfl
  refine ⟨hconfig, fun k => ?_, by rw [hstore], ?_, fun k => ⟨?_, ?_, ?_, ?_⟩, ?_⟩
  · rw [haccums]
    simp
  · rw [hstore]
    exact List.map_map
  · rw [hruns]
    simp
  · rw [hreadings, mapAll_getElem]
    rfl
  · rw [hreadings, mapAll_getElem]
    rfl
  · rw [hreadings, mapAll_getElem]
    rfl
  · rw [hquiet]
    exact quietUnder_zero_iff _

end Sys2Proof.Machine
end

section
/-! SUPPORT. What a promotion leaves. -/

namespace Sys2Proof.Machine

/-! ### What a promotion leaves (R9, R10) -/

/-- R9: the part with the staged bank copied into the active bank. -/
def Part.copied (s : Part) : Part := s.setTables { s.tables with mem := s.tables.mem.promote, staged := .clean }

/-- R10: the part with the bank copied and the elements of a changed identity reset. -/
def Part.reidentified (s : Part) : Part :=
  (elements.filter fun e => s.bank.identity e ≠ s.copied.bank.identity e).foldl Part.resetElement s.copied

/-- R10: the part with the elements reset and a change of the installed towers taken in. -/
def Part.realigned (s : Part) : Part :=
  if towersChanged s.bank s.reidentified.bank then s.reidentified.retower else s.reidentified

theorem Part.promote_eq (s : Part) : s.promote =
    if s.bank.scheduleEnable = s.realigned.bank.scheduleEnable then s.realigned
    else s.realigned.setSched { s.realigned.sched with evalDue := true } := rfl

theorem Part.reidentified_offElements (s : Part) : s.reidentified.offElements = s.copied.offElements :=
  Part.resetElements_offElements _ _

/-- What the reset of the elements keeps. -/
theorem Part.reidentified_keeps {β : Type} (s : Part) (f : Part → β) :
    f s.reidentified.offElements = f s.copied.offElements := by
  rw [Part.reidentified_offElements]

theorem Part.reidentified_tables (s : Part) : s.reidentified.tables = s.withStaged.tables :=
  s.reidentified_keeps Part.tables

theorem Part.reidentified_bank (s : Part) : s.reidentified.bank = activeBank s.tables.mem.promote := by
  rw [Part.bank, Part.reidentified_tables]
  rfl

theorem Part.reidentified_elems {s : Part} (h : s.tables.mem.wf = true) (e : Elem) :
    s.reidentified.elems[e] = s.withStaged.elems[e] := by
  have hbank : s.copied.bank.identity e = (stagedBank s.tables.mem).identity e := Bank.identity_promote h e
  have hstaged : s.withStaged.elems[e] =
      if s.bank.identity e = (stagedBank s.tables.mem).identity e then s.elems[e] else ElemRecord.fresh := by
    simp [Part.withStaged]
  rw [Part.reidentified, Part.resetElements_elems, hstaged, ← hbank]
  by_cases heq : s.bank.identity e = s.copied.bank.identity e
  · rw [if_pos heq, if_neg]
    · rfl
    · simp [heq]
  · rw [if_neg heq, if_pos]
    exact List.mem_filter.mpr ⟨List.mem_finRange e, by simpa using heq⟩

theorem Part.reidentified_still {s : Part} (h : s.tables.mem.wf = true)
    (hstill : ∀ e : Elem, s.elems[e].contactInFlight = false) (e : Elem) :
    s.reidentified.elems[e].contactInFlight = false := by
  rw [Part.reidentified_elems h]
  have hstaged : s.withStaged.elems[e] =
      if s.bank.identity e = (stagedBank s.tables.mem).identity e then s.elems[e] else ElemRecord.fresh := by
    simp [Part.withStaged]
  rw [hstaged]
  split
  · exact hstill e
  · rfl

section
variable {s : Part} (hm : s.tables.mem.wf = true)
include hm

theorem Part.realigned_of_keeps (h : s.keepsTowers) : s.realigned = s.reidentified := by
  rw [Part.realigned, Part.reidentified_bank, (Part.towersChanged_iff hm).mpr h]
  rfl

theorem Part.realigned_of_moved (h : ¬s.keepsTowers) (hstill : ∀ e : Elem, s.elems[e].contactInFlight = false) :
    s.realigned = s.reidentified.retowered := by
  have hchanged : towersChanged s.bank (activeBank s.tables.mem.promote) = true := by
    rw [← Bool.not_eq_false, Part.towersChanged_iff hm]
    exact h
  rw [Part.realigned, Part.reidentified_bank, hchanged, if_pos rfl,
    Part.retower_of_still (Part.reidentified_still hm hstill)]

variable (hstill : s.keepsTowers ∨ ∀ e : Elem, s.elems[e].contactInFlight = false)
include hstill

theorem Part.realigned_offMonitor : s.realigned.offMonitor = s.copied.offMonitor := by
  have hre : s.reidentified.offMonitor = s.copied.offMonitor := by
    rw [Part.offMonitor, Part.reidentified_offElements]
    rfl
  by_cases hk : s.keepsTowers
  · rw [Part.realigned_of_keeps hm hk, hre]
  · rw [Part.realigned_of_moved hm hk (hstill.resolve_left hk), Part.retowered_offMonitor, hre]

theorem Part.realigned_raised : s.realigned.raised = s.raised := by
  have hre : s.reidentified.raised = s.raised := s.reidentified_keeps Part.raised
  by_cases hk : s.keepsTowers
  · rw [Part.realigned_of_keeps hm hk, hre]
  · rw [Part.realigned_of_moved hm hk (hstill.resolve_left hk), Part.retowered_raised, hre]

theorem Part.realigned_elems (e : Elem) : s.realigned.elems[e] =
    { s.withStaged.elems[e] with settleCount := s.realigned.elems[e].settleCount } := by
  by_cases hk : s.keepsTowers
  · rw [Part.realigned_of_keeps hm hk, Part.reidentified_elems hm]
  · rw [Part.realigned_of_moved hm hk (hstill.resolve_left hk), Part.retowered_elems, mapAll_getElem,
      Part.reidentified_elems hm]

/-- What a promotion keeps of the part besides the tables and the Scheduler. -/
theorem Part.promote_offMonitor : s.promote.offMonitor =
    { s.offMonitor with tables := s.withStaged.tables, sched := s.promote.sched } := by
  have hset : ∀ (p : Part) (x : Scheduler), (p.setSched x).offMonitor = { p.offMonitor with sched := x } :=
    fun _ _ => rfl
  have hre := Part.realigned_offMonitor hm hstill
  have hkept : s.realigned.offMonitor.sched = s.copied.offMonitor.sched := by rw [hre]
  have hsched : s.realigned.sched = s.sched := hkept
  rw [Part.promote_eq]
  split
  · rw [hre, hsched]
    rfl
  · rw [hset, hre]
    rfl

/-- What a promotion keeps, read off a field at a time. -/
theorem Part.promote_keeps {β : Type} (f : Part → β) : f s.promote.offMonitor =
    f { s.offMonitor with tables := s.withStaged.tables, sched := s.promote.sched } := by
  rw [Part.promote_offMonitor hm hstill]

omit hm hstill in
/-- The fields that the promotion does not reach. -/
theorem Part.rest_of_offMonitor {s t : Part} {x : Tables} {y : Scheduler}
    (h : t.offMonitor = { s.offMonitor with tables := x, sched := y }) :
    t.walk = s.walk ∧ t.ramp = s.ramp ∧ t.timer = s.timer ∧ t.uptime = s.uptime ∧ t.lines = s.lines ∧
      t.clock = s.clock ∧ t.station = s.station ∧ t.field.sending = s.field.sending := by
  have hkept : ∀ {β : Type} (f : Part → β), f t.offMonitor = f { s.offMonitor with tables := x, sched := y } :=
    fun f => by rw [h]
  clear h
  cases s
  cases t
  exact ⟨hkept Part.walk, hkept Part.ramp, hkept Part.timer, hkept Part.uptime, hkept Part.lines, hkept Part.clock,
    hkept Part.station, hkept fun p => p.field.sending⟩

theorem Part.promote_tables : s.promote.tables = s.withStaged.tables := Part.promote_keeps hm hstill Part.tables

theorem Part.promote_bank : s.promote.bank = activeBank s.tables.mem.promote := by
  rw [Part.bank, Part.promote_tables hm hstill]
  rfl

theorem Part.promote_seq : s.promote.seq = { s.seq with restore := s.promote.seq.restore } := by
  have h := Part.promote_keeps hm hstill Part.seq
  exact congrArg (fun x : Sequencer => { x with restore := s.promote.seq.restore }) h

theorem Part.promote_sched : s.promote.sched =
    { s.sched with
      evalDue := s.sched.evalDue || s.bank.scheduleEnable != (stagedBank s.tables.mem).scheduleEnable } := by
  have hre := Part.realigned_offMonitor hm hstill
  have hkept : ∀ {β : Type} (f : Part → β), f s.realigned.offMonitor = f s.copied.offMonitor := fun f => by rw [hre]
  have hsched : s.realigned.sched = s.sched := hkept Part.sched
  have htables : s.realigned.tables = s.copied.tables := hkept Part.tables
  have hbank : s.realigned.bank.scheduleEnable = (stagedBank s.tables.mem).scheduleEnable := by
    rw [Part.bank, htables]
    exact Bank.scheduleEnable_promote hm
  rw [Part.promote_eq, hbank]
  split
  next heq =>
    rw [heq, bne_self_eq_false, Bool.or_false, hsched]
  next hne =>
    have hbne : (s.bank.scheduleEnable != (stagedBank s.tables.mem).scheduleEnable) = true := bne_iff_ne.mpr hne
    rw [hbne, Bool.or_true, Part.setSched_sched, hsched]

omit hm hstill in
/-- Behind the realignment a promotion touches the Scheduler alone. -/
theorem Part.promote_realigned {β : Type} (f : Part → β) (hf : ∀ (p : Part) (x : Scheduler), f (p.setSched x) = f p) :
    f s.promote = f s.realigned := by
  rw [Part.promote_eq]
  split
  · rfl
  · exact hf _ _

theorem Part.promote_raised : s.promote.raised = s.raised :=
  (Part.promote_realigned Part.raised fun _ _ => rfl).trans (Part.realigned_raised hm hstill)

theorem Part.promote_elems (e : Elem) : s.promote.elems[e] =
    { s.withStaged.elems[e] with settleCount := s.promote.elems[e].settleCount } := by
  rw [Part.promote_realigned Part.elems fun _ _ => rfl]
  exact Part.realigned_elems hm hstill e

omit hstill in
theorem Part.promote_elems_of_keeps (hk : s.keepsTowers) : s.promote.elems = s.withStaged.elems := by
  rw [Part.promote_realigned Part.elems fun _ _ => rfl, Part.realigned_of_keeps hm hk]
  ext i hi : 1
  exact Part.reidentified_elems hm ⟨i, hi⟩

theorem Part.promote_promoted : Part.Promoted s s.promote := by
  refine ⟨Part.promote_tables hm hstill, fun a => ?_, Part.promote_sched hm hstill⟩
  rw [Part.promote_tables hm hstill]
  exact (Memory.promote_spec hm).2 a

theorem Part.promote_monitor : Part.MonitorPromoted s s.promote := by
  have hmonitor : s.promote.store = s.realigned.store ∧ s.promote.corr = s.realigned.corr ∧
      s.promote.table = s.realigned.table :=
    ⟨Part.promote_realigned Part.store fun _ _ => rfl, Part.promote_realigned Part.corr fun _ _ => rfl,
      Part.promote_realigned Part.table fun _ _ => rfl⟩
  obtain ⟨hstore, hcorr, htable⟩ := hmonitor
  refine ⟨fun hk => ?_, fun hk => ?_⟩
  · rw [hstore, hcorr, htable, Part.realigned_of_keeps hm hk]
    exact ⟨s.reidentified_keeps Part.store, s.reidentified_keeps Part.corr, s.reidentified_keeps Part.table⟩
  · have hbank : s.promote.bank = s.reidentified.bank := by
      rw [Part.promote_bank hm hstill, Part.reidentified_bank]
    have hentries : s.reidentified.store.entries = s.store.entries :=
      congrArg PairingStore.entries (s.reidentified_keeps Part.store)
    have htimer : s.reidentified.timer = s.timer := s.reidentified_keeps Part.timer
    rw [hstore, hcorr, htable, hbank, Part.realigned_of_moved hm hk (hstill.resolve_left hk), ← hentries, ← htimer]
    exact Part.retowered_monitor _

end

end Sys2Proof.Machine
end

section
/-! PROOFS. Refused requests. -/

namespace Sys2Proof.Machine

/-! ### The acceptance checks (R75) -/

theorem Part.promotes_iff (s : Part) : s.promotes = true ↔ s.adopts := by
  unfold Part.promotes Part.withholds Part.isInPattern Part.adopts
  cases s.seq.mode with
  | inPattern => cases s.seq.active <;> simp
  | _ => simp

theorem Part.accept_of_halted {s : Part} (hl : s.lines.localOn = false) (hh : s.seq.mode = .halted) (src : Source)
    (target : Option Nat) : s.accept src target = { part := s, refusal := some .isHalted, adopted := false } := by
  have hhalted : s.isHalted = true := by rw [Part.isHalted, hh]; rfl
  rw [Part.accept, if_neg (by simp [hl]), if_pos hhalted]

section
variable {s : Part} (hl : s.lines.localOn = false) (hm : s.seq.mode = .stopped ∨ s.seq.mode = .inPattern)
include hm

theorem Part.isHalted_of_idle : s.isHalted = false := by
  rcases hm with h | h <;> rw [Part.isHalted, h] <;> rfl

theorem Part.isChanging_of_idle : s.isChanging = false := by
  rcases hm with h | h <;> simp only [Part.isChanging, Part.change?, h] <;> rfl

include hl

theorem Part.accept_of_kept (ha : ¬s.adopts) (src : Source) (target : Option Nat) :
    s.accept src target = { part := s, refusal := s.checkTarget target, adopted := false } := by
  have hp : s.promotes = false := by rw [← Bool.not_eq_true, Part.promotes_iff]; exact ha
  rw [Part.accept, if_neg (by simp [hl]), if_neg (by simp [Part.isHalted_of_idle hm]), hp]
  rfl

theorem Part.accept_of_adopts (ha : s.adopts) (src : Source) (target : Option Nat) :
    s.accept src target = { part := s.promote, refusal := s.promote.checkTarget target, adopted := true } := by
  have hp : s.promotes = true := s.promotes_iff.mpr ha
  rw [Part.accept, if_neg (by simp [hl]), if_neg (by simp [Part.isHalted_of_idle hm]), hp]
  rfl

end

theorem Part.checkTarget_of_outside (s : Part) {n : Nat} (h : 3 < n) : s.checkTarget (some n) = some .notDefined := by
  simp only [Part.checkTarget, patOf_eq_none h]

theorem Part.checkTarget_of_undefined {s : Part} {p : Pat} (h : s.bank.patDefined p = false) :
    s.checkTarget (some p.val) = some .notDefined := by
  simp only [Part.checkTarget, patOf_val, h, Bool.not_false, if_true]

theorem Part.checkTarget_of_unreachable {s : Part} {p : Pat} (hd : s.bank.patDefined p = true)
    (h : s.reachable p = false) : s.checkTarget (some p.val) = some .unreachable := by
  simp only [Part.checkTarget, patOf_val, hd, h, Bool.not_true, Bool.false_eq_true, if_false]

theorem Part.checkTarget_of_reachable {s : Part} {p : Pat} (hd : s.bank.patDefined p = true)
    (h : s.reachable p = true) : s.checkTarget (some p.val) = none := by
  simp only [Part.checkTarget, patOf_val, hd, h, Bool.not_true, Bool.false_eq_true, if_false, if_true]

/-- R76: the acceptance walk reads the tables and the contactors' reported states alone. -/
theorem Part.acceptanceWalk_congr {s t : Part} (ht : t.tables = s.tables)
    (hc : ∀ e : Elem, t.elems[e].contact = s.elems[e].contact) (p : Pat) : t.acceptanceWalk p = s.acceptanceWalk p := by
  have hknown : (mapAll t.elems fun _ r => r.contact.known) = mapAll s.elems fun _ r => r.contact.known := by
    ext i hi : 1
    have h := hc ⟨i, hi⟩
    simp only [mapAll, Vector.getElem_ofFn]
    exact congrArg ContactState.known h
  rw [Part.acceptanceWalk, Part.acceptanceWalk, Part.bank, Part.bank, ht, hknown]

theorem Part.reachable_congr {s t : Part} (ht : t.tables = s.tables)
    (hc : ∀ e : Elem, t.elems[e].contact = s.elems[e].contact) (p : Pat) : t.reachable p = s.reachable p := by
  rw [Part.reachable, Part.reachable, Part.acceptanceWalk_congr ht hc, Part.bank, Part.bank, ht]

/-! ### Refusals (R74, R75) -/

/-- R175: the tables-adopted flag of a reply. -/
def adoptedByte (adopted : Bool) : List Byte := if adopted then [1] else [0]

theorem byteFlag_eq (b : Bool) : byteFlag b = adoptedByte b := by cases b <;> rfl

theorem Part.request_of_local {s : Part} (h : s.lines.localOn = true) (src tag : Byte) (code : RequestCode)
    (target : Option Nat) : s.request src tag code target = s.replied (mgmtReply src tag code.code 7 [0]) := by
  unfold Part.request
  rw [if_pos h, Part.answer_eq]
  rfl

theorem Part.request_refused {s a : Part} {target : Option Nat} {r : Refused} {adopted : Bool}
    (hl : s.lines.localOn = false) (hc : s.isChanging = false)
    (ha : s.accept .mgmt target = { part := a, refusal := some r, adopted := adopted }) (src tag : Byte)
    (code : RequestCode) : s.request src tag code target =
      a.replied (mgmtReply src tag code.code r.result.code (adoptedByte adopted)) := by
  unfold Part.request
  rw [if_neg (by simp [hl]), if_neg (by simp [hc])]
  simp only [Part.startNow, ha]
  rw [Part.answer_eq, byteFlag_eq]

theorem Part.request_outside_of_changing {s : Part} {c : Change} {n : Nat} (hl : s.lines.localOn = false)
    (hm : s.seq.mode = .changing c) (h : 3 < n) (src tag : Byte) (code : RequestCode) :
    s.request src tag code (some n) = s.replied (mgmtReply src tag code.code 9 [0]) := by
  have hc : s.isChanging = true := by simp only [Part.isChanging, Part.change?, hm]; rfl
  unfold Part.request
  rw [if_neg (by simp [hl]), if_pos hc]
  simp only [patOf_eq_none h]
  rw [Part.answer_eq]
  rfl

/-! ### CHANGE and STOP as commands -/

/-- The part as a MGMT request meets it: the frame heard, nothing owed. -/
def Part.met (s : Part) : Part := s.stationHeard.setRaised []

theorem exec_change {src tag n : Byte} {s : State} (h : s.part.taking) : exec (.change src tag n) s = .next
    { s with part := (s.part.met.request src tag .change (some n.toNat)).settle.drivePins } :=
  State.run_event (op := fun s => (s.linkAlive .station).request src tag .change (some n.toNat)) h

/-- A CHANGE or STOP that is only answered. -/
theorem exec_request_answered {c : Instr} {src tag : Byte} {code : RequestCode} {target : Option Nat} {s : State}
    (hc : exec c s = s.run (Part.event fun s => (s.linkAlive .station).request src tag code target))
    (h : s.part.taking) {f : Frame} (hr : s.part.met.request src tag code target = s.part.met.replied f) :
    exec c s = .next { s with part := s.part.answered f } := by
  rw [hc]
  exact State.run_event_of_none (op := fun s => (s.linkAlive .station).request src tag code target) h
    (p := s.part.stationHeard.replied f) hr

/-- R75: a request refused without a promotion. -/
theorem exec_request_refused {c : Instr} {src tag : Byte} {code : RequestCode} {target : Option Nat} {s : State}
    (hc : exec c s = s.run (Part.event fun s => (s.linkAlive .station).request src tag code target))
    (h : s.part.taking) (hl : s.part.lines.localOn = false) (hch : s.part.isChanging = false) {r : Refused}
    (ha : s.part.met.accept .mgmt target = { part := s.part.met, refusal := some r, adopted := false }) :
    exec c s = .next { s with part := s.part.answered (mgmtReply src tag code.code r.result.code [0]) } :=
  exec_request_answered hc h (Part.request_refused (s := s.part.met) hl hch ha src tag code)

/-- R9, R10, R75: a CHANGE refused behind a promotion. -/
theorem exec_change_promoted {src tag n : Byte} {s : State} (h : s.part.taking) (hl : s.part.lines.localOn = false)
    (hmode : s.part.seq.mode = .stopped ∨ s.part.seq.mode = .inPattern) (ha : s.part.adopts)
    (hm : s.part.tables.mem.wf = true)
    (hstill : s.part.keepsTowers ∨ ∀ e : Elem, s.part.elems[e].contactInFlight = false) {r : Refused}
    (hr : s.part.met.promote.checkTarget (some n.toNat) = some r) : exec (.change src tag n) s = .next
      { s with part := (s.part.met.promote.replied (mgmtReply src tag 4 r.result.code [1])).closed } := by
  have haccept := Part.accept_of_adopts (s := s.part.met) hl hmode ha .mgmt (some n.toNat)
  rw [hr] at haccept
  have hraised : s.part.met.promote.raised = [] := Part.promote_raised (s := s.part.met) hm hstill
  rw [exec_change h, Part.request_refused (s := s.part.met) hl (Part.isChanging_of_idle hmode) haccept,
    Part.settle_replied hraised]
  rfl

/-- R171: a reply placed behind a transmission with a place free. -/
theorem Part.replied_replies {w : Part} {l : List Frame} (hb : w.stationBusy) (hl : w.station.replies = l)
    (h8 : l.length < 8) (f : Frame) : (w.replied f).closed.station.replies = l ++ [f] := by
  show (w.station.withReply f).replies = _
  rw [StationPort.withReply_of_busy hb, hl]
  exact if_pos h8

/-- R9, R10: what a refusal behind a promotion leaves. -/
theorem Part.promote_refused_leaves {s : Part} (hm : s.tables.mem.wf = true)
    (hstill : s.keepsTowers ∨ ∀ e : Elem, s.elems[e].contactInFlight = false) (hb : s.stationBusy)
    (h8 : s.station.replies.length < 8) (f : Frame) :
    let t := (s.met.promote.replied f).closed
    Part.Promoted s t ∧ Part.MonitorPromoted s t ∧
      (∀ e : Elem, t.elems[e] = { s.withStaged.elems[e] with settleCount := t.elems[e].settleCount }) ∧
      (s.keepsTowers → t.elems = s.withStaged.elems) ∧ t.seq = { s.seq with restore := t.seq.restore } ∧
      t.walk = s.walk ∧ t.ramp = s.ramp ∧ t.timer = s.timer ∧ t.uptime = s.uptime ∧ t.lines = s.lines ∧
      t.clock = s.clock ∧ t.station.replies = s.station.replies ++ [f] := by
  obtain ⟨hwalk, hramp, htimer, huptime, hlines, hclock, hstation, -⟩ :=
    Part.rest_of_offMonitor (Part.promote_offMonitor (s := s.met) hm hstill)
  have hpromoted := Part.promote_promoted (s := s.met) hm hstill
  have hmonitor := Part.promote_monitor (s := s.met) hm hstill
  have helems := Part.promote_elems (s := s.met) hm hstill
  have hsame := Part.promote_elems_of_keeps (s := s.met) hm
  have hseq := Part.promote_seq (s := s.met) hm hstill
  have hstaged : s.met.withStaged.elems = s.withStaged.elems := rfl
  rw [hstaged] at helems hsame
  generalize s.met.promote = u at *
  have hbusy : u.stationBusy := fun h => hb ((congrArg StationPort.sending hstation).symm.trans h)
  have hreplies : u.station.replies = s.station.replies := (congrArg StationPort.replies hstation).trans rfl
  exact ⟨hpromoted, hmonitor, helems, hsame, hseq, hwalk, hramp, htimer, huptime, hlines, hclock,
    Part.replied_replies hbusy hreplies h8 f⟩

/-- Settles O24: each refusal by the check that makes it; behind a promotion the checks meet the promoted part. -/
theorem refusedRequestsHaveNoEffect : Obligations.RefusedRequestsHaveNoEffect := by
  intro src tag n s h
  have hchange : exec (.change src tag n) s =
      s.run (Part.event fun s => (s.linkAlive .station).request src tag .change (some n.toNat)) := rfl
  have hstop : exec (.stop src tag) s =
      s.run (Part.event fun s => (s.linkAlive .station).request src tag .stop none) := rfl
  have hidle : s.part.seq.mode = .stopped ∨ s.part.seq.mode = .inPattern → s.part.isChanging = false :=
    fun hmode => Part.isChanging_of_idle hmode
  intro change stop promoted
  refine ⟨fun hlocal => ⟨?_, ?_⟩, fun hl => ⟨fun hh => ⟨?_, ?_⟩, fun hmode => ⟨fun ha => ?_,
    fun ha hm hstill hb h8 => ?_⟩,
    fun c hm hn => ?_⟩⟩
  · exact exec_request_answered hchange h (Part.request_of_local (s := s.part.met) hlocal src tag .change _)
  · exact exec_request_answered hstop h (Part.request_of_local (s := s.part.met) hlocal src tag .stop _)
  · have hch : s.part.isChanging = false := by simp only [Part.isChanging, Part.change?, hh]; rfl
    exact exec_request_refused (r := .isHalted) hchange h hl hch (Part.accept_of_halted (s := s.part.met) hl hh ..)
  · have hch : s.part.isChanging = false := by simp only [Part.isChanging, Part.change?, hh]; rfl
    exact exec_request_refused (r := .isHalted) hstop h hl hch (Part.accept_of_halted (s := s.part.met) hl hh ..)
  · have hrefused : ∀ r : Refused, s.part.met.checkTarget (some n.toNat) = some r → change r.result.code := by
      intro r hr
      have haccept := Part.accept_of_kept (s := s.part.met) hl hmode ha .mgmt (some n.toNat)
      rw [hr] at haccept
      exact exec_request_refused hchange h hl (hidle hmode) haccept
    refine ⟨fun hn => hrefused .notDefined (Part.checkTarget_of_outside _ hn), fun p hn => ?_⟩
    rw [hn] at hrefused
    exact ⟨fun hd => hrefused .notDefined (Part.checkTarget_of_undefined hd),
      fun hd hr => hrefused .unreachable (Part.checkTarget_of_unreachable hd hr)⟩
  · have hrefused : ∀ r : Refused, s.part.met.promote.checkTarget (some n.toNat) = some r → promoted r.result.code :=
      fun r hr => ⟨_, exec_change_promoted h hl hmode ha hm hstill hr, rfl,
        Part.promote_refused_leaves hm hstill hb h8 _⟩
    refine ⟨fun hn => hrefused .notDefined (Part.checkTarget_of_outside _ hn), fun p hn => ?_⟩
    rw [hn] at hrefused
    have hbank : s.part.met.promote.bank.patDefined p = (stagedBank s.part.tables.mem).patDefined p := by
      rw [Part.promote_bank (s := s.part.met) hm hstill]
      exact Bank.patDefined_promote hm p
    have hreach : s.part.met.promote.reachable p = s.part.withStaged.reachable p :=
      Part.reachable_congr (Part.promote_tables (s := s.part.met) hm hstill) (fun e => by
        rw [Part.promote_elems (s := s.part.met) hm hstill e]) p
    exact ⟨fun hd => hrefused .notDefined (Part.checkTarget_of_undefined (hbank.trans hd)),
      fun hd hr => hrefused .unreachable (Part.checkTarget_of_unreachable (hbank.trans hd) (hreach.trans hr))⟩
  · exact exec_request_answered hchange h
      (Part.request_outside_of_changing (s := s.part.met) hl hm hn src tag .change)

end Sys2Proof.Machine
end

section
/-! SUPPORT. The phases up to SWITCHING, and the walk that does not end at once. -/

namespace Sys2Proof.Machine

/-! ### The course of a change that needs moves -/

/-- A change record without what its phases rewrite. -/
def Change.course (c : Change) : Change := { c.outline with phase := .rampDown }

/-- A sequencer state, its change record without what the phases rewrite. -/
def Mode.course : Mode → Mode
  | .changing c => .changing c.course
  | m => m

/-- The part without what the phases up to SWITCHING rewrite while both ports transmit: the phase and its deadlines, the
ramp and its POWER frame, the commands and the walk. -/
def Part.steady (s : Part) : Part :=
  { s with
    seq := { s.seq with mode := s.seq.mode.course }
    elems := s.elems.map fun r => { r with command := none, expired := none, atLimit := false }
    walk := Part.cold.walk, ramp := Part.cold.ramp
    station := { s.station with power := none, queue := [] }
    field := { s.field with commands := [] } }

theorem Part.modifyChange_steady {s : Part} {f : Change → Change} (h : ∀ c, (f c).course = c.course) :
    (s.modifyChange f).steady = s.steady := by
  unfold Part.modifyChange
  split
  next c hm =>
    simp only [Part.steady, Part.setSeq, hm, Mode.course, h]
  · rfl

@[simp] theorem Part.setPhase_steady (s : Part) (ph : Phase) : (s.setPhase ph).steady = s.steady :=
  Part.modifyChange_steady fun _ => rfl

@[simp] theorem Part.setPhaseDeadline_steady (s : Part) (d : Option Uptime) :
    (s.setPhaseDeadline d).steady = s.steady :=
  Part.modifyChange_steady fun _ => rfl

@[simp] theorem Part.setGroup_steady (s : Part) (k : Nat) : (s.setGroup k).steady = s.steady :=
  Part.modifyChange_steady fun _ => rfl

@[simp] theorem Part.setRamp_steady (s : Part) (r : RampEngine) : (s.setRamp r).steady = s.steady := rfl

@[simp] theorem Part.setWalk_steady (s : Part) (x : SwitchEngine) : (s.setWalk x).steady = s.steady := rfl

@[simp] theorem Part.orderRamp_steady (s : Part) (level : Nat) : (s.orderRamp level).steady = s.steady := rfl

theorem Part.clampLicence_steady {s : Part} (hb : s.stationBusy) : s.clampLicence.steady = s.steady := by
  cases hg : s.governing with
  | none => simp only [Part.clampLicence_eq, hg]
  | some p =>
    rw [Part.clampLicence_of_busy hg hb]
    rfl

theorem Part.forceZero_steady {s : Part} (hb : s.stationBusy) : s.forceZero.steady = s.steady := by
  rw [Part.forceZero_of_busy hb]
  rfl

theorem Part.stationBusy_of_steady {s t : Part} (h : t.steady = s.steady) (hb : s.stationBusy) : t.stationBusy := by
  have hsending : t.steady.station.sending = s.steady.station.sending := by rw [h]
  exact fun ht => hb (hsending.symm.trans ht)

theorem Part.fieldBusy_of_steady {s t : Part} (h : t.steady = s.steady) (hb : s.fieldBusy) : t.fieldBusy := by
  have hsending : t.steady.field.sending = s.steady.field.sending := by rw [h]
  exact fun ht => hb (hsending.symm.trans ht)

theorem Part.fieldKick_of_busy {s : Part} (h : s.fieldBusy) : s.fieldKick = s := by
  unfold Part.fieldKick
  split
  next hs => exact absurd hs h
  · rfl

/-- R102: a command of the part's waits behind the frame in transmission. -/
theorem Part.commandPart_steady {s : Part} (h : s.fieldBusy) (e : Elem) (x : Order) (preset : Bool) :
    (s.commandPart e x preset).steady = s.steady := by
  have hkick : s.commandPart e x preset = (s.recordCommand e .part x preset).setField
      { s.field with
        commands := placeCommand s.field.commands
          { elem := e, order := x, frame := (s.recordCommand e .part x preset).orderFrame e x } } :=
    Part.fieldKick_of_busy h
  have hmap : ((s.recordCommand e .part x preset).elems.map fun r : ElemRecord =>
      { r with command := none, expired := none, atLimit := false }) =
      s.elems.map fun r => { r with command := none, expired := none, atLimit := false } :=
    setAt_map _ _ _ _ rfl
  have hrecord : (s.recordCommand e .part x preset).steady = { s.steady with
      elems := (s.recordCommand e .part x preset).elems.map fun r : ElemRecord =>
        { r with command := none, expired := none, atLimit := false } } := rfl
  rw [hmap] at hrecord
  rw [hkick]
  exact hrecord

theorem Part.settleStep_steady {s : Part} (h : s.fieldBusy) (x : SwitchStep) :
    (s.settleStep x).2.steady = s.steady := by
  unfold Part.settleStep
  split
  · exact Part.commandPart_steady h _ _ _
  · rfl

theorem Part.settleSteps_steady (l : List SwitchStep) : ∀ {s : Part}, s.fieldBusy →
    (Part.settleSteps l s).2.steady = s.steady := by
  induction l with
  | nil => exact fun _ => rfl
  | cons x l ih =>
    intro s h
    have hx := Part.settleStep_steady h x
    exact (ih (Part.fieldBusy_of_steady hx h)).trans hx

theorem Part.walkFrom_steady (l : List (List SwitchStep)) : ∀ (k : Nat) {s : Part}, s.fieldBusy →
    (Part.walkFrom l k s).2.steady = s.steady := by
  induction l with
  | nil => exact fun _ _ _ => rfl
  | cons g l ih =>
    intro k s h
    have hgroup := s.setGroup_steady k
    have hsteps := (Part.settleSteps_steady g (Part.fieldBusy_of_steady hgroup h)).trans hgroup
    unfold Part.walkFrom
    dsimp only
    split
    · exact hgroup
    · split
      · split
        · refine (ih _ ?_).trans ?_
          · exact Part.fieldBusy_of_steady hsteps h
          · exact hsteps
        · exact hsteps
      · exact hsteps

/-! ### A walk that does not end at once (R76, R113) -/

/-- R113: the steps of a group are all COMPLETE where every contactor stands as its step asks, and none is commanded. -/
theorem Part.settleSteps_complete (l : List SwitchStep) : ∀ {s : Part},
    ((Part.settleSteps l s).1.all (· == .complete)) = true →
    (Part.settleSteps l s).2 = s ∧ ∀ x ∈ l, s.elems[x.elem].contact.is x.action = true := by
  induction l with
  | nil => exact fun _ => ⟨rfl, fun _ hx => absurd hx List.not_mem_nil⟩
  | cons x l ih =>
    intro s h
    have hcons : (Part.settleSteps (x :: l) s).1 =
        (s.settleStep x).1 :: (Part.settleSteps l (s.settleStep x).2).1 := rfl
    rw [hcons, List.all_cons, Bool.and_eq_true, beq_iff_eq] at h
    obtain ⟨hx, hl⟩ := h
    have hout : s.stepOutcome x = .complete ∧ (s.settleStep x).2 = s := by
      unfold Part.settleStep at hx ⊢
      split at hx
      · exact nomatch hx
      · exact ⟨hx, rfl⟩
    have hcontact : s.elems[x.elem].contact.is x.action = true := by
      have h := hout.1
      unfold Part.stepOutcome at h
      split at h
      · exact nomatch h
      · split at h
        · assumption
        · exact nomatch h
    rw [hout.2] at hl
    obtain ⟨hrest, hall⟩ := ih hl
    refine ⟨?_, fun y hy => ?_⟩
    · show (Part.settleSteps l (s.settleStep x).2).2 = s
      rw [hout.2, hrest]
    · rcases List.mem_cons.mp hy with rfl | hy
      · exact hcontact
      · exact hall y hy

/-- R113 to R115: a walk that ends at its start has found every contactor as its steps ask. -/
theorem Part.walkFrom_done (l : List (List SwitchStep)) : ∀ (k : Nat) {s : Part}, (Part.walkFrom l k s).1 = true →
    ∀ x ∈ l.flatten, s.elems[x.elem].contact.is x.action = true := by
  induction l with
  | nil => exact fun _ _ _ _ hx => absurd hx List.not_mem_nil
  | cons g l ih =>
    intro k s h x hx
    have hgroup : (s.setGroup k).elems = s.elems := by
      unfold Part.setGroup Part.modifyChange
      split <;> rfl
    unfold Part.walkFrom at h
    dsimp only at h
    split at h
    · exact nomatch h
    · split at h
      next hall =>
        obtain ⟨hsame, hsteps⟩ := Part.settleSteps_complete g hall
        rw [hgroup] at hsteps
        split at h
        · have hrest := ih _ h
          rw [hsame] at hrest
          rcases List.mem_append.mp (List.flatten_cons ▸ hx) with hx | hx
          · exact hsteps x hx
          · have := hrest x hx
            rwa [Part.setWalk_elems, hgroup] at this
        · exact nomatch h
      · exact nomatch h

theorem flatten_groupsOf (l : List SwitchStep) : (groupsOf l).flatten = l := by
  induction l with
  | nil => rfl
  | cons x l ih =>
    unfold groupsOf
    split
    next h => rw [h] at ih; simp [← ih]
    next gs h => rw [h] at ih; simp [← ih]
    next y g gs h =>
      rw [h] at ih
      split <;> simp [← ih]

theorem ContactState.known_of_is {x : ContactState} {c : Contact} (h : x.is c = true) : x.known = some c := by
  unfold ContactState.is at h
  split at h
  · rfl
  · rfl
  · exact nomatch h

theorem setAt_same {α : Type} {n : Nat} (v : Vector α n) (i : Fin n) : setAt v i v[i] = v := by
  ext j hj
  simp only [setAt, Vector.getElem_set]
  split
  next h => subst h; rfl
  · rfl

/-- R76: a walk over states that every step finds as it asks counts no move. -/
theorem acceptanceWalk_of_found (l : List SwitchStep) (v : Vector (Option Contact) 40) (m : Bool)
    (h : ∀ x ∈ l, v[x.elem] = some x.action) : acceptanceWalk l v m = (v, m) := by
  induction l generalizing m with
  | nil => rfl
  | cons x l ih =>
    have hx := h x List.mem_cons_self
    rw [acceptanceWalk, ← hx, setAt_same, bne_self_eq_false, Bool.or_false]
    exact ih m fun y hy => h y (List.mem_cons_of_mem x hy)

/-- R76, R113: where a contactor must move, the walk of the list does not end at its start. -/
theorem Part.walk_not_done {s : Part} {p : Pat} (h : s.movesNeeded (some p) = true) (k : Nat) :
    (Part.walkFrom (groupsOf (s.bank.switchList p)) k s).1 = false := by
  rw [← Bool.not_eq_true]
  intro hdone
  have hfound := Part.walkFrom_done _ k hdone
  rw [flatten_groupsOf] at hfound
  have hwalk : s.acceptanceWalk p = _ := acceptanceWalk_of_found _ _ false fun x hx => by
    rw [mapAll_getElem]
    exact ContactState.known_of_is (hfound x hx)
  rw [Part.movesNeeded, hwalk] at h
  exact nomatch h

end Sys2Proof.Machine
end

section
/-! SUPPORT. The course of the phases that the start of a change enters. -/

namespace Sys2Proof.Machine

/-! ### RAMP_DOWN, MUTING and SWITCHING (R79 to R81) -/

/-- The current group index of the change in flight. -/
def Mode.group : Mode → Nat
  | .changing c => c.group
  | _ => 0

theorem Part.modifyChange_group {s : Part} {f : Change → Change} (h : ∀ c, (f c).group = c.group) :
    (s.modifyChange f).seq.mode.group = s.seq.mode.group := by
  unfold Part.modifyChange
  split
  next c hm => rw [hm]; exact h c
  · rfl

@[simp] theorem Part.setPhase_group (s : Part) (ph : Phase) : (s.setPhase ph).seq.mode.group = s.seq.mode.group :=
  Part.modifyChange_group fun _ => rfl

@[simp] theorem Part.setPhaseDeadline_group (s : Part) (d : Option Uptime) :
    (s.setPhaseDeadline d).seq.mode.group = s.seq.mode.group :=
  Part.modifyChange_group fun _ => rfl

theorem Part.contact_of_steady {s t : Part} (h : t.steady = s.steady) (e : Elem) :
    t.elems[e].contact = s.elems[e].contact := by
  have helems : t.steady.elems[e].contact = s.steady.elems[e].contact := by rw [h]
  simpa [Part.steady] using helems

theorem Part.movesNeeded_of_steady {s t : Part} (h : t.steady = s.steady) (target : Option Pat) :
    t.movesNeeded target = s.movesNeeded target := by
  have hsteady : t.steady.tables = s.steady.tables := by rw [h]
  have htables : t.tables = s.tables := hsteady
  cases target with
  | none => rfl
  | some p => exact congrArg Prod.snd (Part.acceptanceWalk_congr htables (Part.contact_of_steady h) p)

theorem Part.change?_group (s : Part) : (s.change?.map Change.group).getD 0 = s.seq.mode.group := by
  unfold Part.change?
  cases s.seq.mode <;> rfl

theorem Part.clampLicence_seq {s : Part} (hb : s.stationBusy) : s.clampLicence.seq = s.seq := by
  cases hg : s.governing with
  | none => simp only [Part.clampLicence_eq, hg]
  | some p =>
    rw [Part.clampLicence_of_busy hg hb]
    rfl

section
variable {s : Part} {p : Pat} (hb : s.stationBusy) (hf : s.fieldBusy) (hmoves : s.movesNeeded (some p) = true)
  (hgroup : s.seq.mode.group = 0)
include hf hmoves hgroup

/-- R81: SWITCHING entered for a change that needs moves does not end in the same event. -/
theorem Part.enterSwitching_steady : (s.enterSwitching p).steady = s.steady := by
  have hs1 : ((s.setPhase .switching).setPhaseDeadline none).steady = s.steady := by
    rw [Part.setPhaseDeadline_steady, Part.setPhase_steady]
  have hg : ((s.setPhase .switching).setPhaseDeadline none).seq.mode.group = 0 := by
    rw [Part.setPhaseDeadline_group, Part.setPhase_group, hgroup]
  have hdone := Part.walk_not_done ((Part.movesNeeded_of_steady hs1 (some p)).trans hmoves) 0
  unfold Part.enterSwitching
  dsimp only
  rw [Part.change?_group, hg]
  unfold Part.walkOn
  dsimp only
  rw [List.drop_zero, hdone]
  exact (Part.walkFrom_steady _ 0 (Part.fieldBusy_of_steady hs1 hf)).trans hs1

include hb

/-- R80: MUTING, and SWITCHING where QUIET holds. -/
theorem Part.enterMuting_steady : (s.enterMuting p).steady = s.steady := by
  have hphase := s.setPhase_steady .muting
  have hzero := (Part.forceZero_steady (Part.stationBusy_of_steady hphase hb)).trans hphase
  have hg : (s.setPhase .muting).forceZero.seq.mode.group = 0 := by
    rw [Part.forceZero_of_busy (Part.stationBusy_of_steady hphase hb)]
    exact (s.setPhase_group .muting).trans hgroup
  unfold Part.enterMuting
  generalize (s.setPhase .muting).forceZero = w at hzero hg
  have hdeadline := (w.setPhaseDeadline_steady (some (after w.uptime w.bank.muteTimeout))).trans hzero
  dsimp only
  split
  · refine (Part.enterSwitching_steady (Part.fieldBusy_of_steady hdeadline hf) ?_ ?_).trans hdeadline
    · rw [Part.movesNeeded_of_steady hdeadline, hmoves]
    · rw [Part.setPhaseDeadline_group, hg]
  · exact hdeadline

/-- R79: RAMP_DOWN, and MUTING where the ramp completes at its order. -/
theorem Part.enterRampDown_steady {c : Change} (hm : s.seq.mode = .changing c) (hto : c.toPat = some p)
    (next : Part → Part) : (s.enterRampDown next).steady = s.steady := by
  have hphase := s.setPhase_steady .rampDown
  have hclamp := (Part.clampLicence_steady (Part.stationBusy_of_steady hphase hb)).trans hphase
  have hseq : (s.setPhase .rampDown).clampLicence.seq.mode = .changing { c with phase := .rampDown } := by
    rw [Part.clampLicence_seq (Part.stationBusy_of_steady hphase hb), Part.setPhase, Part.modifyChange_of_changing hm]
    rfl
  unfold Part.enterRampDown
  generalize (s.setPhase .rampDown).clampLicence = w at hclamp hseq
  have horder := (w.orderRamp_steady 0).trans hclamp
  unfold Part.settleRamp
  split
  · have hfinish := ((w.orderRamp 0).setRamp_steady (w.orderRamp 0).ramp.finish).trans horder
    have hmode : ((w.orderRamp 0).setRamp (w.orderRamp 0).ramp.finish).seq.mode =
        .changing { c with phase := .rampDown } :=
      hseq
    generalize (w.orderRamp 0).setRamp (w.orderRamp 0).ramp.finish = x at hfinish hmode
    have hgroup' : x.seq.mode.group = 0 := by
      rw [hmode, ← hgroup, hm]
      rfl
    have hcompleted : x.rampCompleted next = x.enterMuting p := by
      simp only [Part.rampCompleted, Part.change?, hmode, hto]
    rw [hcompleted]
    refine (Part.enterMuting_steady (Part.stationBusy_of_steady hfinish hb) (Part.fieldBusy_of_steady hfinish hf) ?_
      hgroup').trans hfinish
    rw [Part.movesNeeded_of_steady hfinish, hmoves]
  · exact horder

/-- R78: the phases of a change that needs moves, as far as they are entered in the event of its start. -/
theorem Part.enterPhases_steady {c : Change} (hm : s.seq.mode = .changing c) (hto : c.toPat = some p)
    (hc : c.moves = true) (next : Part → Part) : (s.enterPhases next).steady = s.steady := by
  unfold Part.enterPhases
  simp only [Part.change?, hm, hto, hc, if_true]
  split
  · exact Part.enterRampDown_steady hb hf hmoves hgroup hm hto next
  · exact Part.enterMuting_steady hb hf hmoves hgroup

end

/-! ### PRESETTING and RAMP_TO_TRIM (R82 to R84) -/

/-- The outline of a part without what the phases of a change rewrite while both ports transmit. -/
def Outline.course (o : Outline) : Outline :=
  { o with mode := o.mode.course, ramp := Part.cold.ramp, station := { o.station with power := none, queue := [] } }

/-- What the phases of a change leave as it is while both ports transmit. -/
def Part.course (s : Part) : Outline := s.outline.course

theorem Part.course_of_outline {s t : Part} (h : t.outline = s.outline) :
    t.course = s.course := congrArg Outline.course h

theorem Mode.course_outline (m : Mode) : m.course.outline.course = m.outline.course := by cases m <;> rfl

theorem Part.steady_course (s : Part) : s.steady.course = s.course := by
  have hcounts : s.steady.elems.map ElemRecord.trimCount = s.elems.map ElemRecord.trimCount := by
    ext i hi
    simp [Part.steady]
  have hsteady : s.steady.course =
      { s.course with
        mode := s.seq.mode.course.outline.course, trimCounts := s.steady.elems.map ElemRecord.trimCount } := rfl
  rw [hsteady, hcounts, Mode.course_outline]
  rfl

theorem Part.course_of_steady {s t : Part} (h : t.steady = s.steady) : t.course = s.course := by
  rw [← t.steady_course, h, s.steady_course]

theorem Part.stationBusy_of_course {s t : Part} (h : t.course = s.course) (hb : s.stationBusy) : t.stationBusy := by
  have hsending : t.course.station.sending = s.course.station.sending := by rw [h]
  exact fun ht => hb (hsending.symm.trans ht)

theorem Part.fieldBusy_of_course {s t : Part} (h : t.course = s.course) (hb : s.fieldBusy) : t.fieldBusy := by
  have hsending : t.course.fieldSending = s.course.fieldSending := by rw [h]
  exact fun ht => hb (hsending.symm.trans ht)

/-- The verify count of the change in flight. -/
def Mode.verify : Mode → Nat
  | .changing c => c.verify
  | _ => 0

theorem Mode.verify_course (m : Mode) : m.outline.course.verify = m.verify := by cases m <;> rfl

theorem Part.verify_of_course {s t : Part} (h : t.course = s.course) : t.seq.mode.verify = s.seq.mode.verify := by
  have hmode : t.course.mode.verify = s.course.mode.verify := by rw [h]
  exact (Mode.verify_course _).symm.trans (hmode.trans (Mode.verify_course _))

theorem Part.presetEntry_course {s : Part} (h : s.fieldBusy) (a : ActuatorEntry) :
    (s.presetEntry a).course = s.course := by
  unfold Part.presetEntry
  split
  · split
    · exact Part.course_of_outline (Part.setTrim_outline rfl rfl)
    · exact Part.course_of_steady (Part.commandPart_steady h _ _ _)
  · rfl

theorem Part.presetEntries_course (l : List ActuatorEntry) : ∀ {s : Part}, s.fieldBusy →
    (l.foldl Part.presetEntry s).course = s.course := by
  induction l with
  | nil => exact fun _ => rfl
  | cons a l ih =>
    intro s h
    have ha := Part.presetEntry_course h a
    exact (ih (Part.fieldBusy_of_course ha h)).trans ha

/-- R84: TRIMMING, of a change that has verified no round. -/
theorem Part.enterTrimming_course {s : Part} (hv : s.seq.mode.verify = 0) (p : Pat) :
    (s.enterTrimming p).course = s.course := by
  have hphase : ((s.setPhase .trimming).restartPattern p).course = s.course :=
    (Part.course_of_outline (Part.restartPattern_outline _ p)).trans (Part.course_of_steady (s.setPhase_steady _))
  have hverify := (Part.verify_of_course hphase).trans hv
  unfold Part.enterTrimming
  dsimp only
  generalize (s.setPhase .trimming).restartPattern p = w at hphase hverify
  refine Eq.trans ?_ hphase
  unfold Part.modifyChange
  split
  next c hm =>
    rw [hm] at hverify
    have hc : Change.course { c with
        settleDeadline := some (after w.uptime (w.bank.settleTimeout p)), verify := 0 } = c.course := by
      rw [← hverify]
      rfl
    have hset : ∀ x : Change, (w.setSeq { w.seq with mode := .changing x }).course =
        { w.course with mode := .changing x.course } := fun _ => rfl
    have hcourse : w.course = { w.course with mode := .changing c.course } := by
      rw [← hset, ← hm]
      rfl
    rw [hset, hc]
    exact hcourse.symm
  · rfl

/-- R83: RAMP_TO_TRIM with TX_TRIP released, and TRIMMING where the ramp completes at its order. -/
theorem Part.enterRampToTrim_course {s : Part} (hv : s.seq.mode.verify = 0) (ht : s.lines.txTrip = false) (p : Pat) :
    (s.enterRampToTrim p).course = s.course := by
  have hphase : (s.setPhase .rampToTrim).course = s.course := Part.course_of_steady (s.setPhase_steady _)
  have hlines : (s.setPhase .rampToTrim).course.lines = s.course.lines := by rw [hphase]
  have ht' : (s.setPhase .rampToTrim).lines.txTrip = false := (congrArg Lines.txTrip hlines).trans ht
  unfold Part.enterRampToTrim
  generalize s.setPhase .rampToTrim = w at hphase ht'
  have htrim : (w.setTrim { w.trim with deferred := [] }).course = s.course :=
    (Part.course_of_outline (Part.setTrim_outline rfl rfl)).trans hphase
  simp only [Part.setTrim_lines, ht', Bool.false_eq_true, if_false]
  generalize w.setTrim { w.trim with deferred := [] } = x at htrim
  have horder : (x.releaseInhibit.orderRamp (x.bank.trimLevel p)).course = s.course :=
    (Part.course_of_steady ((x.releaseInhibit.orderRamp_steady _).trans (x.setRamp_steady _))).trans htrim
  generalize x.releaseInhibit.orderRamp (x.bank.trimLevel p) = y at horder
  have hfinish : (y.setRamp y.ramp.finish).course = s.course :=
    (Part.course_of_steady (y.setRamp_steady _)).trans horder
  split
  · exact (Part.enterTrimming_course ((Part.verify_of_course hfinish).trans hv) p).trans hfinish
  · exact horder

/-- R82: PRESETTING and what follows it in the same event. -/
theorem Part.enterPresetting_course {s : Part} (hb : s.stationBusy) (hf : s.fieldBusy) (hv : s.seq.mode.verify = 0)
    (ht : s.lines.txTrip = false) (p : Pat) : (s.enterPresetting p).course = s.course := by
  have hrestart : ((s.setPhase .presetting).restartPattern p).course = s.course :=
    (Part.course_of_outline (Part.restartPattern_outline _ p)).trans (Part.course_of_steady (s.setPhase_steady _))
  have hclamp : ((s.setPhase .presetting).restartPattern p).clampLicence.course = s.course :=
    (Part.course_of_steady (Part.clampLicence_steady (Part.stationBusy_of_course hrestart hb))).trans hrestart
  have hpreset : (((s.setPhase .presetting).restartPattern p).clampLicence.presetAll p).course = s.course :=
    (Part.presetEntries_course _ (Part.fieldBusy_of_course hclamp hf)).trans hclamp
  unfold Part.enterPresetting Part.endPresetting
  generalize ((s.setPhase .presetting).restartPattern p).clampLicence.presetAll p = w at hpreset
  split
  · exact hpreset
  · have hlines : w.course.lines = s.course.lines := by rw [hpreset]
    exact (Part.enterRampToTrim_course ((Part.verify_of_course hpreset).trans hv)
      ((congrArg Lines.txTrip hlines).trans ht) p).trans hpreset

/-- R78: the phases of a change to a pattern, as far as they are entered in the event of its start. -/
theorem Part.enterPhases_course {s : Part} {c : Change} {p : Pat} (hm : s.seq.mode = .changing c)
    (hto : c.toPat = some p) (hb : s.stationBusy) (hf : s.fieldBusy) (hv : c.verify = 0) (hgroup : c.group = 0)
    (hmoves : c.moves = s.movesNeeded (some p)) (ht : s.lines.txTrip = false) (next : Part → Part) :
    (s.enterPhases next).course = s.course := by
  cases hc : c.moves with
  | true =>
    exact Part.course_of_steady (Part.enterPhases_steady hb hf (hmoves ▸ hc) (by rw [hm]; exact hgroup) hm hto hc next)
  | false =>
    have henter : s.enterPhases next = s.enterPresetting p := by
      unfold Part.enterPhases
      simp only [Part.change?, hm, hto, hc, Bool.false_eq_true, if_false]
    rw [henter]
    exact Part.enterPresetting_course hb hf (by rw [hm]; exact hv) ht p

end Sys2Proof.Machine
end

section
/-! PROOFS. Accepted changes. -/

namespace Sys2Proof.Machine

/-! ### The start of a change (R77) -/

/-- R70: the part as its sequencer leaves IN_PATTERN. -/
def Part.leftPattern (s : Part) : Part :=
  if s.isInPattern then
    (s.endCondition .outOfTolerance .nothing).setSeq
      { (s.endCondition .outOfTolerance .nothing).seq with ootRun := 0, ootRaised := false }
  else s

/-- R72, R77: the change record of an accepted request. -/
def Part.newChange (s : Part) (src : Source) (target : Option Pat) (adopted : Bool) : Change :=
  { fromPat := s.seq.active
    toPat := target
    source := src
    kind := if target = s.seq.active then .reseat else .normal
    cause := none
    phase := .rampDown
    moves := s.movesNeeded target
    group := 0
    phaseDeadline := none
    settleDeadline := none
    verify := 0
    adopted := adopted }

/-- R77, R142: the part with its change begun, before the first phase is entered. -/
def Part.begun (s : Part) (src : Source) (target : Option Pat) (adopted : Bool) : Part :=
  let s2 := (s.leftPattern.setMode (.changing (s.newChange src target adopted))).refillTrim
  (s2.setTrim { s2.trim with allowance := true }).endRamp

theorem Part.startChange_eq (next : Part → Part) (s : Part) (src : Source) (target : Option Pat) (adopted : Bool) :
    s.startChange next src target adopted = (s.begun src target adopted).enterPhases next := rfl

theorem Part.leftPattern_eq (s : Part) :
    s.leftPattern = (s.setFaults s.leftPattern.faults).setSeq s.leftPattern.seq := by
  unfold Part.leftPattern
  split
  · rw [Part.endCondition, Part.endRecords_eq]
    rfl
  · rfl

theorem Part.leftPattern_active_slot (s : Part) :
    s.leftPattern.seq.active = s.seq.active ∧ s.leftPattern.seq.slot = s.seq.slot := by
  unfold Part.leftPattern Part.endCondition
  split
  · rcases Part.endRecords_seq_cases s (fun r => r.kind == .outOfTolerance && r.object == .nothing) with h | h
    · simp only [Part.setSeq_seq, h, and_self]
    · simp only [Part.setSeq_seq, h, and_self]
  · exact ⟨rfl, rfl⟩

/-- What the beginning of a change leaves. -/
theorem Part.begun_eq (s : Part) (src : Source) (target : Option Pat) (adopted : Bool) :
    s.begun src target adopted = { s with
      faults := s.leftPattern.faults
      seq := { s.leftPattern.seq with mode := .changing (s.newChange src target adopted) }
      elems := mapAll s.elems fun _ r => { r with trimCount := 0 }
      trim := { s.trim with exhausted := [], allowance := true }
      ramp := s.ramp.stop } := by
  have h := s.leftPattern_eq
  generalize s.leftPattern.faults = faults at h ⊢
  generalize s.leftPattern.seq = seq at h ⊢
  unfold Part.begun
  generalize s.newChange src target adopted = c
  generalize s.leftPattern = x at h
  subst h
  simp only [Part.setMode, Part.refillTrim, Part.endRamp, Part.setSeq, Part.setTrim, Part.setElems, Part.setRamp,
    Part.setFaults]

/-- Two parts alike in what the record of a change and its start are told by. -/
structure Part.StartsAs (q s : Part) : Prop where
  active : s.seq.active = q.seq.active
  slot : s.seq.slot = q.seq.slot
  tables : s.tables = q.tables
  timer : s.timer = q.timer
  uptime : s.uptime = q.uptime
  lines : s.lines = q.lines
  clock : s.clock = q.clock
  contact : ∀ e : Elem, s.elems[e].contact = q.elems[e].contact

theorem Part.movesNeeded_congr {s t : Part} (ht : t.tables = s.tables)
    (hc : ∀ e : Elem, t.elems[e].contact = s.elems[e].contact) (p : Pat) :
    t.movesNeeded (some p) = s.movesNeeded (some p) := by
  rw [Part.movesNeeded, Part.movesNeeded, Part.acceptanceWalk_congr ht hc]

/-- R77: what an accepted request leaves at the end of its event. `s`: the part behind the acceptance checks. -/
theorem Part.started_of_course {s w q : Part} {src : Source} {p : Pat} {adopted : Bool}
    (hw : w.course = (s.begun src (some p) adopted).course) (hq : q.StartsAs s) (f : Frame) :
    Part.Started q (w.replied f).closed src (some p) adopted := by
  obtain ⟨hleftActive, hleftSlot⟩ := s.leftPattern_active_slot
  have hkept : ∀ {β : Type} (g : Outline → β), g w.course = g (s.begun src (some p) adopted).course :=
    fun g => by rw [hw]
  rw [Part.begun_eq] at hkept
  have hmode : w.seq.mode.outline.course = .changing (s.newChange src (some p) adopted) := hkept Outline.mode
  have hcounts : w.elems.map ElemRecord.trimCount =
      (mapAll s.elems fun _ r => { r with trimCount := 0 }).map ElemRecord.trimCount := hkept Outline.trimCounts
  obtain ⟨c, hc, hcourse⟩ : ∃ c, w.seq.mode = .changing c ∧ c.outline.course = s.newChange src (some p) adopted := by
    cases hm : w.seq.mode with
    | changing c =>
      rw [hm] at hmode
      exact ⟨c, rfl, Mode.changing.inj hmode⟩
    | _ => rw [hm] at hmode; exact nomatch hmode
  have hrecord : ∀ {β : Type} (g : Change → β), g c.outline.course = g (s.newChange src (some p) adopted) :=
    fun g => by rw [hcourse]
  refine ⟨⟨c, hc, (hrecord Change.fromPat).trans hq.active, hrecord Change.toPat, hrecord Change.source,
    hrecord Change.cause, ?_,
    (hrecord Change.moves).trans (Part.movesNeeded_congr hq.tables hq.contact p), hrecord Change.verify,
    hrecord Change.adopted⟩, ?_, ?_, hkept Outline.exhausted, hkept Outline.allowance, fun e => ?_,
    (hkept Outline.tables).trans hq.tables,
    (hkept Outline.timer).trans hq.timer, (hkept Outline.uptime).trans hq.uptime, (hkept Outline.lines).trans hq.lines,
    (hkept Outline.clock).trans hq.clock, ?_⟩
  · refine (hrecord Change.kind).trans ?_
    show (if some p = s.seq.active then ChangeKind.reseat else .normal) = _
    rw [hq.active]
    simp only [eq_comm]
  · exact ((hkept Outline.active).trans hleftActive).trans hq.active
  · exact ((hkept Outline.slot).trans hleftSlot).trans hq.slot
  · have hcount := congrArg (fun v : Vector Nat 40 => v[e]) hcounts
    show w.elems[e].trimCount = 0
    simpa [mapAll] using hcount
  · show (w.seq.mode == Mode.inPattern && w.seq.sub == .normal) = false
    rw [hc]
    rfl

/-! ### Accepted requests (R74, R75) -/

theorem Part.request_accepted {s a : Part} {p : Pat} {adopted : Bool} (hl : s.lines.localOn = false)
    (hc : s.isChanging = false)
    (ha : s.accept .mgmt (some p.val) = { part := a, refusal := none, adopted := adopted }) (src tag : Byte)
    (code : RequestCode) : s.request src tag code (some p.val) =
      (a.startChange Part.slotTaken .mgmt (some p) adopted).replied
        (mgmtReply src tag code.code 0 (adoptedByte adopted)) := by
  unfold Part.request
  rw [if_neg (by simp [hl]), if_neg (by simp [hc])]
  simp only [Part.startNow, ha]
  rw [Part.answer_eq, byteFlag_eq, Option.bind_some, patOf_val]
  rfl

theorem Part.begun_movesNeeded (s : Part) (src : Source) (target : Option Pat) (adopted : Bool) (p : Pat) :
    (s.begun src target adopted).movesNeeded (some p) = s.movesNeeded (some p) := by
  have hbegun := s.begun_eq src target adopted
  refine Part.movesNeeded_congr (by rw [hbegun]) (fun e => ?_) p
  rw [hbegun]
  simp [mapAll]

section
variable {s : Part} (hb : s.stationBusy) (hf : s.fieldBusy) (src : Source) (p : Pat) (adopted : Bool)
  (next : Part → Part)
include hb hf

/-- R77, R78: what the event of an accepted CHANGE leaves, with both ports transmitting. -/
theorem Part.startChange_course (ht : s.lines.txTrip = false) :
    (s.startChange next src (some p) adopted).course = (s.begun src (some p) adopted).course := by
  have hmoves := s.begun_movesNeeded src (some p) adopted p
  have hbegun := s.begun_eq src (some p) adopted
  have hmode : (s.begun src (some p) adopted).seq.mode = .changing (s.newChange src (some p) adopted) := by rw [hbegun]
  rw [Part.startChange_eq]
  refine Part.enterPhases_course hmode rfl ?_ ?_ rfl rfl hmoves.symm ?_ next
  · rw [hbegun]
    exact hb
  · rw [hbegun]
    exact hf
  · rw [hbegun]
    exact ht

/-- What the start of a change keeps of the part. -/
theorem Part.startChange_keeps (ht : s.lines.txTrip = false) :
    (s.startChange next src (some p) adopted).raised = s.raised ∧
      (s.startChange next src (some p) adopted).tables = s.tables ∧
      (s.startChange next src (some p) adopted).sched = s.sched ∧
      (s.startChange next src (some p) adopted).station.replies = s.station.replies ∧
      (s.startChange next src (some p) adopted).stationBusy := by
  have hcourse := Part.startChange_course hb hf src p adopted next ht
  have hkept : ∀ {β : Type} (g : Outline → β), g (s.startChange next src (some p) adopted).course =
      g (s.begun src (some p) adopted).course := fun g => by rw [hcourse]
  rw [Part.begun_eq] at hkept
  exact ⟨hkept Outline.raised, hkept Outline.tables, hkept Outline.sched, hkept fun o => o.station.replies,
    Part.stationBusy_of_course hcourse (by rw [Part.begun_eq]; exact hb)⟩

/-- R77, R78: the start of a change that needs moves leaves the monitor as it is. -/
theorem Part.startChange_monitor (hm : s.movesNeeded (some p) = true) :
    (s.startChange next src (some p) adopted).store = s.store ∧
      (s.startChange next src (some p) adopted).corr = s.corr ∧
      (s.startChange next src (some p) adopted).table = s.table := by
  have hmoves := s.begun_movesNeeded src (some p) adopted p
  have hbegun := s.begun_eq src (some p) adopted
  have hmode : (s.begun src (some p) adopted).seq.mode = .changing (s.newChange src (some p) adopted) := by rw [hbegun]
  have hsteady : (s.startChange next src (some p) adopted).steady = (s.begun src (some p) adopted).steady := by
    rw [Part.startChange_eq]
    refine Part.enterPhases_steady ?_ ?_ (hmoves.trans hm) ?_ hmode rfl hm next
    · rw [hbegun]
      exact hb
    · rw [hbegun]
      exact hf
    · rw [hmode]
      rfl
  rw [hbegun] at hsteady
  generalize s.startChange next src (some p) adopted = w at hsteady ⊢
  have hkept : ∀ {β : Type} (g : Part → β), g w.steady = g _ := fun g => congrArg g hsteady
  exact ⟨hkept Part.store, hkept Part.corr, hkept Part.table⟩

end

/-- What a promotion leaves is said of any two parts alike in the tables and the Scheduler. -/
theorem Part.Promoted.congr {s t u : Part} (h : Part.Promoted s t) (htables : u.tables = t.tables)
    (hsched : u.sched = t.sched) : Part.Promoted s u := by
  unfold Part.Promoted at *
  rw [htables, hsched]
  exact h

theorem Part.MonitorPromoted.congr {s t u : Part} (h : Part.MonitorPromoted s t) (htables : u.tables = t.tables)
    (hstore : u.store = t.store) (hcorr : u.corr = t.corr) (htable : u.table = t.table) : Part.MonitorPromoted s u := by
  unfold Part.MonitorPromoted Part.bank at *
  rw [htables, hstore, hcorr, htable]
  exact h

/-- R77, R175: a CHANGE accepted behind the acceptance checks, which leave `a`, with both ports transmitting. -/
theorem exec_change_accepted {src tag n : Byte} {p : Pat} {s : State} {a q : Part} {adopted : Bool} (h : s.part.taking)
    (hl : s.part.lines.localOn = false) (hmode : s.part.seq.mode = .stopped ∨ s.part.seq.mode = .inPattern)
    (hn : n.toNat = p.val) (h8 : s.part.station.replies.length < 8)
    (ha : s.part.met.accept .mgmt (some p.val) = { part := a, refusal := none, adopted := adopted })
    (hq : q.StartsAs a) (ht : q.lines.txTrip = false) (hb : a.stationBusy) (hf : a.fieldBusy) (hraised : a.raised = [])
    (hreplies : a.station.replies = s.part.station.replies) :
    ∃ t, exec (.change src tag n) s = .next t ∧ t.pending = s.pending ∧
      Part.Started q t.part .mgmt (some p) adopted ∧ t.part.tables = a.tables ∧ t.part.sched = a.sched ∧
      (q.movesNeeded (some p) = true → t.part.store = a.store ∧ t.part.corr = a.corr ∧ t.part.table = a.table) ∧
      t.part.station.replies = s.part.station.replies ++ [mgmtReply src tag 4 0 (adoptedByte adopted)] := by
  have ht' : a.lines.txTrip = false := (congrArg Lines.txTrip hq.lines).trans ht
  have hcourse := Part.startChange_course hb hf .mgmt p adopted Part.slotTaken ht'
  have hmonitor := Part.startChange_monitor hb hf .mgmt p adopted Part.slotTaken
  obtain ⟨hwraised, hwtables, hwsched, hwreplies, hwbusy⟩ :=
    Part.startChange_keeps hb hf .mgmt p adopted Part.slotTaken ht'
  have hrun : exec (.change src tag n) s = .next
      { s with
        part := ((a.startChange Part.slotTaken .mgmt (some p) adopted).replied
          (mgmtReply src tag 4 0 (adoptedByte adopted))).closed } := by
    rw [exec_change h, hn, Part.request_accepted (s := s.part.met) hl (Part.isChanging_of_idle hmode) ha,
      Part.settle_replied (hwraised.trans hraised)]
    rfl
  generalize a.startChange Part.slotTaken .mgmt (some p) adopted = w at *
  exact ⟨_, hrun, rfl, Part.started_of_course hcourse hq _, hwtables, hwsched,
    fun hm => hmonitor ((Part.movesNeeded_congr hq.tables hq.contact p).trans hm),
    Part.replied_replies hwbusy (hwreplies.trans hreplies) h8 _⟩

/-- What a promotion leaves of what the start of a change is told by. -/
theorem Part.promote_startsAs {s : Part} (hm : s.tables.mem.wf = true)
    (hstill : s.keepsTowers ∨ ∀ e : Elem, s.elems[e].contactInFlight = false) : s.withStaged.StartsAs s.promote := by
  obtain ⟨-, -, htimer, huptime, hlines, hclock, -, -⟩ := Part.rest_of_offMonitor (Part.promote_offMonitor hm hstill)
  have hseq := Part.promote_seq hm hstill
  exact
    { active := by rw [hseq]; rfl
      slot := by rw [hseq]; rfl
      tables := Part.promote_tables hm hstill
      timer := htimer
      uptime := huptime
      lines := hlines
      clock := hclock
      contact := fun e => by rw [Part.promote_elems hm hstill e] }

/-- Settles O25: the event keeps the course of the change that it begins, and of a change that needs moves the
monitor. -/
theorem acceptedChangeStarts : Obligations.AcceptedChangeStarts := by
  intro src tag n p s h hl ht hn hmode hb hf h8
  refine ⟨fun ha hd hr => ?_, fun ha hm hstill hd hr => ?_⟩
  · have haccept := Part.accept_of_kept (s := s.part.met) hl hmode ha .mgmt (some p.val)
    rw [Part.checkTarget_of_reachable (s := s.part.met) hd hr] at haccept
    obtain ⟨t, hrun, hpending, hstarted, -, hsched, -, hreplies⟩ :=
      exec_change_accepted (src := src) (tag := tag) h hl hmode hn h8 haccept
        (q := s.part) ⟨rfl, rfl, rfl, rfl, rfl, rfl, rfl, fun _ => rfl⟩ ht hb hf rfl rfl
    exact ⟨t, hrun, hpending, hstarted, hsched, hreplies⟩
  · have hstarts := Part.promote_startsAs (s := s.part.met) hm hstill
    have hbank : s.part.met.promote.bank.patDefined p = true := by
      rw [Part.promote_bank (s := s.part.met) hm hstill]
      exact (Bank.patDefined_promote hm p).trans hd
    have haccept := Part.accept_of_adopts (s := s.part.met) hl hmode ha .mgmt (some p.val)
    rw [Part.checkTarget_of_reachable hbank
      ((Part.reachable_congr hstarts.tables hstarts.contact p).trans hr)] at haccept
    obtain ⟨-, -, -, -, -, -, hstation, hfield⟩ :=
      Part.rest_of_offMonitor (Part.promote_offMonitor (s := s.part.met) hm hstill)
    obtain ⟨t, hrun, hpending, hstarted, htables, hsched, hmonitor, hreplies⟩ :=
      exec_change_accepted (src := src) (tag := tag) h hl hmode hn h8 haccept hstarts ht
        (fun hs => hb ((congrArg StationPort.sending hstation).symm.trans hs))
        (fun hs => hf (hfield.symm.trans hs))
        (Part.promote_raised (s := s.part.met) hm hstill) ((congrArg StationPort.replies hstation).trans rfl)
    refine ⟨t, hrun, hpending, hstarted, (Part.promote_promoted (s := s.part.met) hm hstill).congr htables hsched,
      fun hneeds => ?_, hreplies⟩
    obtain ⟨hstore, hcorr, htable⟩ := hmonitor hneeds
    exact (Part.promote_monitor (s := s.part.met) hm hstill).congr htables hstore hcorr htable

end Sys2Proof.Machine
end

section
/-! SUPPORT. What the invariants of the bounded lists speak of, and what the work inside an event leaves of the part. -/

namespace Sys2Proof.Machine

/-! ### The invariants of the lists -/

/-- R22: an entry holds no tower twice and none that it has combined, and neither holds nor has combined its reference
tower. -/
def Entry.Sound (e : Entry) : Prop :=
  e.held.Pairwise (fun x y => x.1 ≠ y.1) ∧ (∀ x ∈ e.held, x.1 ≠ e.refTower ∧ x.1 ∉ e.combined) ∧
    e.refTower ∉ e.combined

theorem Part.storeSound_iff (s : Part) :
    s.StoreSound ↔ (s.store.entries.map Entry.index).Pairwise (· ≠ ·) ∧ ∀ e ∈ s.store.entries, e.Sound := by
  rw [List.pairwise_map]
  exact Iff.rfl

/-- The invariants of the bounded lists, each kept on its own. -/
structure Part.Keeps (s t : Part) : Prop where
  entries : s.store.entries.length ≤ 8 → t.store.entries.length ≤ 8
  sound : s.StoreSound → t.StoreSound
  records : s.faults.records.length ≤ 16 → t.faults.records.length ≤ 16
  distinct : s.faults.distinct → t.faults.distinct
  fieldQueue : s.field.queue.length ≤ 8 → t.field.queue.length ≤ 8
  stationQueue : s.station.queue.length ≤ 8 → t.station.queue.length ≤ 8
  replies : s.station.replies.length ≤ 8 → t.station.replies.length ≤ 8

theorem Part.Keeps.bounded {s t : Part} (k : s.Keeps t) (h : s.Bounded) : t.Bounded := by
  obtain ⟨he, hr, hf, hs, hp⟩ := h
  exact ⟨k.entries he, k.records hr, k.fieldQueue hf, k.stationQueue hs, k.replies hp⟩

theorem Part.Keeps.refl (s : Part) : s.Keeps s := ⟨id, id, id, id, id, id, id⟩

theorem Part.Keeps.trans {s t u : Part} (h : s.Keeps t) (h' : t.Keeps u) : s.Keeps u :=
  ⟨h'.entries ∘ h.entries, h'.sound ∘ h.sound, h'.records ∘ h.records, h'.distinct ∘ h.distinct,
    h'.fieldQueue ∘ h.fieldQueue, h'.stationQueue ∘ h.stationQueue, h'.replies ∘ h.replies⟩

/-- Only the Pairing Store differs. -/
theorem Part.Keeps.of_store {s t : Part} (hf : t.faults = s.faults) (hp : t.field = s.field)
    (hs : t.station = s.station) (he : s.store.entries.length ≤ 8 → t.store.entries.length ≤ 8)
    (hsound : s.StoreSound → t.StoreSound) : s.Keeps t := by
  refine ⟨he, hsound, ?_, ?_, ?_, ?_, ?_⟩ <;> simp only [hf, hp, hs] <;> exact id

theorem Part.Keeps.of_lists {s t : Part} (he : t.store = s.store) (hf : t.faults = s.faults) (hp : t.field = s.field)
    (hs : t.station = s.station) : s.Keeps t := by
  refine Part.Keeps.of_store hf hp hs ?_ ?_ <;> simp only [he, Part.StoreSound] <;> exact id

/-! ### Work inside an event -/

/-- What every event leaves that is not a reset and passes no time: the time and the input lines, the frame that the Field
Port sends with the BLOCK_START that waits behind it, and the invariants of the lists. -/
structure Part.Stays (s t : Part) : Prop where
  held : t.held = s.held
  lines : t.lines = s.lines
  uptime : t.uptime = s.uptime
  timer : t.timer = s.timer
  clock : t.clock = s.clock
  sending : ∀ g, s.field.sending = some g → t.field.sending = some g ∧ t.field.blockStart = s.field.blockStart
  keeps : s.Keeps t

/-- What the work inside an event leaves, where it neither opens nor closes an entry: the indices of the open entries
besides. -/
structure Part.Works (s t : Part) : Prop extends s.Stays t where
  indices : t.store.entries.map Entry.index = s.store.entries.map Entry.index

theorem Part.Stays.trans {s t u : Part} (h : s.Stays t) (h' : t.Stays u) : s.Stays u where
  held := h'.held.trans h.held
  lines := h'.lines.trans h.lines
  uptime := h'.uptime.trans h.uptime
  timer := h'.timer.trans h.timer
  clock := h'.clock.trans h.clock
  sending g hg := by
    obtain ⟨hsend, hstart⟩ := h.sending g hg
    obtain ⟨hsend', hstart'⟩ := h'.sending g hsend
    exact ⟨hsend', hstart'.trans hstart⟩
  keeps := h.keeps.trans h'.keeps

theorem Part.Works.refl (s : Part) : s.Works s :=
  ⟨⟨rfl, rfl, rfl, rfl, rfl, fun _ h => ⟨h, rfl⟩, Part.Keeps.refl s⟩, rfl⟩

theorem Part.Works.trans {s t u : Part} (h : s.Works t) (h' : t.Works u) : s.Works u :=
  ⟨h.toStays.trans h'.toStays, h'.indices.trans h.indices⟩

theorem Part.Works.foldl {α : Type} {f : Part → α → Part} (h : ∀ (s : Part) (a : α), s.Works (f s a)) (l : List α) :
    ∀ s : Part, s.Works (l.foldl f s) := by
  induction l with
  | nil => exact Part.Works.refl
  | cons a l ih => exact fun s => (h s a).trans (ih _)

/-- A step that is made or left out. -/
theorem Part.Works.ite {s t u : Part} {b : Prop} [Decidable b] (h : s.Works t) (h' : s.Works u) :
    s.Works (if b then t else u) := by
  split
  · exact h
  · exact h'

/-- Work that goes on where a condition holds. -/
theorem Part.Works.thenIf {s t u : Part} {b : Prop} [Decidable b] (h : s.Works t) (h' : t.Works u) :
    s.Works (if b then u else t) := (h.trans h').ite h

/-- Work that goes on unless a condition holds. -/
theorem Part.Works.thenUnless {s t u : Part} {b : Prop} [Decidable b] (h : s.Works t) (h' : t.Works u) :
    s.Works (if b then t else u) := h.ite (h.trans h')

/-- What `Works` speaks of. -/
def Part.worksOn (s : Part) :=
  (s.held, s.lines, s.uptime, s.timer, s.clock, s.store, s.faults, s.field, s.station)

/-- A step that touches nothing of it. -/
theorem Part.Works.of_eq {s t : Part} (h : t.worksOn = s.worksOn) : s.Works t := by
  simp only [Part.worksOn, Prod.mk.injEq] at h
  obtain ⟨hheld, hlines, huptime, htimer, hclock, hstore, hfaults, hfield, hstation⟩ := h
  exact ⟨⟨hheld, hlines, huptime, htimer, hclock, fun g hg => by rw [hfield]; exact ⟨hg, rfl⟩,
    Part.Keeps.of_lists hstore hfaults hfield hstation⟩, by rw [hstore]⟩

/-- A change of the Pairing Store. -/
theorem Part.setStore_stays {s : Part} {x : PairingStore}
    (hl : s.store.entries.length ≤ 8 → x.entries.length ≤ 8) (hs : s.StoreSound → (s.setStore x).StoreSound) :
    s.Stays (s.setStore x) :=
  ⟨rfl, rfl, rfl, rfl, rfl, fun _ h => ⟨h, rfl⟩, Part.Keeps.of_store rfl rfl rfl hl hs⟩

/-- A change of the entries that leaves each its index. -/
theorem Part.setStore_works {s : Part} {x : PairingStore} {f : Entry → Entry}
    (hx : x.entries = s.store.entries.map f) (hi : ∀ e, (f e).index = e.index)
    (hs : s.StoreSound → ∀ e ∈ s.store.entries, (f e).Sound) : s.Works (s.setStore x) := by
  have hindices : x.entries.map Entry.index = s.store.entries.map Entry.index := by
    rw [hx, List.map_map]
    exact List.map_congr_left fun e _ => hi e
  refine ⟨Part.setStore_stays (fun h => by simpa [hx] using h) fun h => (Part.storeSound_iff _).mpr ?_, hindices⟩
  refine ⟨hindices.symm ▸ ((Part.storeSound_iff s).mp h).1, fun e he => ?_⟩
  rw [Part.setStore_store, hx] at he
  obtain ⟨y, hy, rfl⟩ := List.mem_map.mp he
  exact hs h y hy

/-- Entries are closed. -/
theorem Part.setStore_sublist_stays {s : Part} {x : PairingStore} (h : x.entries.Sublist s.store.entries) :
    s.Stays (s.setStore x) :=
  Part.setStore_stays h.length_le.trans fun hs => ⟨hs.1.sublist h, fun e he => hs.2 e (h.subset he)⟩

theorem Part.setFaults_works {s : Part} {u : FaultUnit} (hl : s.faults.records.length ≤ 16 → u.records.length ≤ 16)
    (hd : s.faults.distinct → u.distinct) : s.Works (s.setFaults u) :=
  ⟨⟨rfl, rfl, rfl, rfl, rfl, fun _ h => ⟨h, rfl⟩, ⟨id, id, hl, hd, id, id, id⟩⟩, rfl⟩

theorem Part.setStation_works {s : Part} {x : StationPort} (hq : s.station.queue.length ≤ 8 → x.queue.length ≤ 8)
    (hr : s.station.replies.length ≤ 8 → x.replies.length ≤ 8) : s.Works (s.setStation x) :=
  ⟨⟨rfl, rfl, rfl, rfl, rfl, fun _ h => ⟨h, rfl⟩, ⟨id, id, id, id, id, hq, hr⟩⟩, rfl⟩

/-- A Field Port that goes on as it did, or chooses where it does not transmit. -/
theorem Part.setField_works {s : Part} {x : FieldPort}
    (hs : ∀ g, s.field.sending = some g → x.sending = some g ∧ x.blockStart = s.field.blockStart)
    (hq : s.field.queue.length ≤ 8 → x.queue.length ≤ 8) : s.Works (s.setField x) :=
  ⟨⟨rfl, rfl, rfl, rfl, rfl, hs, ⟨id, id, id, id, hq, id, id⟩⟩, rfl⟩

/-! ### The fault list -/

theorem FaultUnit.map_distinct {u : FaultUnit} {f : FaultRecord → FaultRecord} (hd : u.distinct)
    (hf : ∀ r, (f r).kind = r.kind ∧ (f r).object = r.object ∧ ((f r).active = true → r.active = true)) (o : Bool) :
    FaultUnit.distinct { records := u.records.map f, overflow := o } := by
  refine List.pairwise_map.mpr (hd.imp ?_)
  rintro r x h ⟨hr, hx, hk, ho⟩
  obtain ⟨hrk, hro, hra⟩ := hf r
  obtain ⟨hxk, hxo, hxa⟩ := hf x
  exact h ⟨hra hr, hxa hx, hrk.symm.trans (hk.trans hxk), hro.symm.trans (ho.trans hxo)⟩

/-- R153: a list within its places stays within them. -/
theorem FaultUnit.place_length {u : FaultUnit} (h : u.records.length ≤ 16) (r : FaultRecord) :
    (u.place r).records.length ≤ 16 := by
  have hplace : ∀ n : Nat, 1 ≤ n → n ≤ faultPlaces - u.records.length → (u.records ++ [r]).length ≤ 16 := by
    intro n hn hfree
    simp only [faultPlaces, List.length_append, List.length_singleton] at *
    omega
  unfold FaultUnit.place
  dsimp only
  split
  · split
    next hfree => exact hplace 1 le_rfl hfree
    next => exact h
  · split
    next hfree => exact hplace 3 (by decide) hfree
    next => exact h
  · split
    next hfree => exact hplace 3 (by decide) hfree
    next => exact h
  · split
    next hfree => exact hplace 3 (by decide) hfree
    next =>
      split
      next hany =>
        obtain ⟨x, hx, hrep⟩ := List.any_eq_true.mp hany
        have hpos := List.length_pos_of_mem hx
        simp only [List.length_append, List.length_singleton, List.length_eraseP_of_mem hx hrep]
        omega
      next => exact h

/-- R152: a raise that repeats no ACTIVE record finds none of its kind and object. -/
theorem FaultUnit.place_distinct {u : FaultUnit} (h : u.distinct) {r : FaultRecord}
    (hr : ∀ x ∈ u.records, ¬(x.active = true ∧ x.kind = r.kind ∧ x.object = r.object)) : (u.place r).distinct := by
  have happend : ∀ (l : List FaultRecord) (o : Bool), l.Sublist u.records →
      FaultUnit.distinct { records := l ++ [r], overflow := o } := by
    intro l o hl
    refine List.pairwise_append.mpr ⟨h.sublist hl, List.pairwise_singleton _ _, fun x hx y hy => ?_⟩
    obtain rfl := List.mem_singleton.mp hy
    rintro ⟨hxa, -, hk, ho⟩
    exact hr x (hl.subset hx) ⟨hxa, hk, ho⟩
  unfold FaultUnit.place
  dsimp only
  split
  · split
    · exact happend _ _ (List.Sublist.refl _)
    · exact h
  · split
    · exact happend _ _ (List.Sublist.refl _)
    · exact h
  · split
    · exact happend _ _ (List.Sublist.refl _)
    · exact h
  · split
    · exact happend _ _ (List.Sublist.refl _)
    · split
      · exact happend _ _ List.eraseP_sublist
      · exact h

theorem Part.recordFault_works (s : Part) (now : Uptime) (r : FaultRecord) :
    s.Works (s.setFaults (s.faults.record now r)) := by
  unfold FaultUnit.record
  split
  next =>
    refine Part.setFaults_works (fun h => by simpa using h) fun h => FaultUnit.map_distinct h (fun x => ?_) _
    split
    · exact ⟨rfl, rfl, id⟩
    · exact ⟨rfl, rfl, id⟩
  next hany =>
    refine Part.setFaults_works (fun h => FaultUnit.place_length h r) fun h => FaultUnit.place_distinct h fun x hx => ?_
    have := List.any_eq_false.mp (by simpa only [Bool.not_eq_true] using hany) x hx
    simpa [FaultRecord.matchesRaise, and_assoc] using this

theorem Part.setRaised_works (s : Part) (l : List Raised) : s.Works (s.setRaised l) := Part.Works.of_eq rfl

theorem Part.raiseUnder_works (s : Part) (k : FaultKind) (o : FaultObject) (cls : FaultClass) (sit : Situation)
    (pats : Option (Option Pat × Option Pat)) : s.Works (s.raiseUnder k o cls sit pats) :=
  (s.recordFault_works _ _).trans (Part.setRaised_works _ _)

theorem Part.raise_works (s : Part) (k : FaultKind) (o : FaultObject) (cls : FaultClass) :
    s.Works (s.raise k o cls) := s.raiseUnder_works _ _ _ _ _

theorem Part.raiseEach_works (s : Part) (k : FaultKind) (cls : FaultClass) (os : List FaultObject) :
    s.Works (s.raiseEach k cls os) :=
  Part.Works.foldl (fun s o => s.raise_works k o cls) os s

theorem Part.endRecords_works (s : Part) (p : FaultRecord → Bool) : s.Works (s.endRecords p) := by
  have hend : s.Works (s.setFaults { s.faults with
      records := s.faults.records.map fun r => if (r.active && p r) = true then { r with active := false } else r }) := by
    refine Part.setFaults_works (fun h => by simpa using h) fun h => FaultUnit.map_distinct h (fun x => ?_) _
    split
    · exact ⟨rfl, rfl, nofun⟩
    · exact ⟨rfl, rfl, id⟩
  unfold Part.endRecords
  dsimp only
  split
  · exact hend.trans (Part.Works.of_eq rfl)
  · exact hend

theorem Part.endCondition_works (s : Part) (k : FaultKind) (o : FaultObject) : s.Works (s.endCondition k o) :=
  s.endRecords_works _

theorem Part.endEventRecords_works (s : Part) : s.Works s.endEventRecords := s.endRecords_works _

end Sys2Proof.Machine
end

section
/-! SUPPORT. The ports, the monitor, the Ramp Engine, commands and presets, as work inside an event. -/

namespace Sys2Proof.Machine

/-! ### The Station Port -/

theorem Part.stationChoice_works (s : Part) : s.Works s.stationChoice := by
  unfold Part.stationChoice
  split
  next f rest h =>
    refine Part.setStation_works id fun hr => ?_
    rw [h, List.length_cons] at hr
    exact Nat.le_of_succ_le hr
  next =>
    split
    · exact Part.setStation_works id id
    · split
      · exact Part.setStation_works id id
      · split
        next x rest h =>
          refine Part.setStation_works (fun hq => ?_) id
          rw [h, List.length_cons] at hq
          exact Nat.le_of_succ_le hq
        next => exact Part.Works.refl s

theorem Part.stationKick_works (s : Part) : s.Works s.stationKick := by
  unfold Part.stationKick
  split
  · exact s.stationChoice_works
  · exact Part.Works.refl s

/-- A change of the Station Port, after which a port that does not transmit chooses. -/
theorem Part.setStation_kick_works {s : Part} {x : StationPort}
    (hq : s.station.queue.length ≤ 8 → x.queue.length ≤ 8)
    (hr : s.station.replies.length ≤ 8 → x.replies.length ≤ 8) : s.Works (s.setStation x).stationKick :=
  (Part.setStation_works hq hr).trans (Part.stationKick_works _)

theorem Part.reply_works (s : Part) (f : Frame) : s.Works (s.reply f) := by
  unfold Part.reply
  split
  next h =>
    refine Part.setStation_kick_works id fun _ => ?_
    rw [List.length_append]
    exact h
  next => exact Part.Works.refl s

theorem Part.answer_works (s : Part) (src tag : Byte) (c : RequestCode) (r : Result) (data : List Byte) :
    s.Works (s.answer src tag c r data) := s.reply_works _

theorem Part.refuse_works (s : Part) (f : Frame) (r : RefusedReason) : s.Works (s.refuse f r) := s.reply_works _

theorem Part.handPower_works (s : Part) (l : Nat) : s.Works (s.handPower l) :=
  Part.setStation_kick_works id id

theorem Part.handMonitor_works (s : Part) (f : Frame) : s.Works (s.handMonitor f) := by
  unfold Part.handMonitor
  split
  · exact Part.setStation_kick_works id id
  · exact Part.Works.refl s

/-- A change of the Field Port that concerns neither its queue nor what it sends. -/
theorem Part.setField_aside_works {s : Part} {x : FieldPort} (hs : x.sending = s.field.sending)
    (hb : x.blockStart = s.field.blockStart) (hq : x.queue = s.field.queue) : s.Works (s.setField x) :=
  Part.setField_works (fun _ hg => ⟨hs.trans hg, hb⟩) fun h => by rwa [hq]

theorem Part.countDiscard_works (s : Part) (p : Port) : s.Works (s.countDiscard p) := by
  cases p
  · exact Part.setField_aside_works rfl rfl rfl
  · exact Part.setStation_works id id

theorem Part.queueStation_works (s : Part) (o : Port) (f : Frame) : s.Works (s.queueStation o f) := by
  unfold Part.queueStation
  split
  next h =>
    refine Part.setStation_kick_works (fun _ => ?_) id
    rw [List.length_append]
    exact h
  next => exact s.countDiscard_works o

/-! ### The Field Port -/

theorem Part.setElems_works (s : Part) (x : Vector ElemRecord 40) : s.Works (s.setElems x) := Part.Works.of_eq rfl

theorem Part.modifyElem_works (s : Part) (e : Elem) (f : ElemRecord → ElemRecord) : s.Works (s.modifyElem e f) :=
  s.setElems_works _

theorem Part.withdrawField_works (s : Part) (x : FieldItem) : s.Works (s.withdrawField x) := by
  unfold Part.withdrawField
  refine Part.Works.trans ?_ (Part.refuse_works _ _ _)
  split
  · exact s.modifyElem_works _ _
  · exact Part.Works.refl s

/-- A choice by a Field Port that does not transmit, from a queue that is within its places. -/
theorem Part.choose_works {s : Part} {x : FieldPort} (h : s.field.sending = none)
    (hq : s.field.queue.length ≤ 8 → x.queue.length ≤ 8) : s.Works (s.setField x) :=
  Part.setField_works (fun g hg => by rw [h] at hg; exact absurd hg (by simp)) hq

theorem Part.reply_field (s : Part) (f : Frame) : (s.reply f).field = s.field := by
  rw [Part.reply_eq]
  rfl

theorem Part.withdrawField_field (s : Part) (x : FieldItem) : (s.withdrawField x).field = s.field := by
  unfold Part.withdrawField Part.refuse
  rw [Part.reply_field]
  split <;> rfl

/-- R173: what is left of the field-bound queue is no longer than what the choice is made from. -/
theorem Part.chooseQueue_works (l : List FieldItem) : ∀ s : Part, s.field.sending = none →
    (s.field.queue.length ≤ 8 → l.length ≤ 8) → s.Works (Part.chooseQueue l s) := by
  induction l with
  | nil => exact fun s hs _ => Part.choose_works hs fun _ => Nat.zero_le _
  | cons x l ih =>
    intro s hs hl
    have hrest : s.field.queue.length ≤ 8 → l.length ≤ 8 := fun h => Nat.le_of_succ_le (hl h)
    rw [Part.chooseQueue]
    split
    · refine (s.withdrawField_works x).trans (ih _ ?_ ?_)
      · rw [Part.withdrawField_field, hs]
      · rw [Part.withdrawField_field]
        exact hrest
    · exact Part.choose_works hs hrest

theorem Part.chooseCommand_works (l : List PartFrame) {s : Part} (hs : s.field.sending = none) :
    s.Works (Part.chooseCommand l s) := by
  induction l with
  | nil =>
    refine Part.Works.trans ?_ (Part.chooseQueue_works _ _ hs id)
    exact Part.setField_aside_works rfl rfl rfl
  | cons c l ih =>
    rw [Part.chooseCommand]
    split
    · exact Part.choose_works hs id
    · exact ih

theorem Part.fieldChoice_works {s : Part} (hs : s.field.sending = none) : s.Works s.fieldChoice := by
  unfold Part.fieldChoice
  split
  · exact Part.choose_works hs id
  · exact Part.chooseCommand_works _ hs

theorem Part.fieldKick_works (s : Part) : s.Works s.fieldKick := by
  unfold Part.fieldKick
  split
  next hs => exact Part.fieldChoice_works hs
  next => exact Part.Works.refl s

/-- A change of the Field Port, after which a port that does not transmit chooses. -/
theorem Part.setField_kick_works {s : Part} {x : FieldPort} (hs : x.sending = s.field.sending)
    (hb : x.blockStart = s.field.blockStart) (hq : s.field.queue.length ≤ 8 → x.queue.length ≤ 8) :
    s.Works (s.setField x).fieldKick :=
  (Part.setField_works (fun _ hg => ⟨hs.trans hg, hb⟩) hq).trans (Part.fieldKick_works _)

theorem Part.handCommand_works (s : Part) (e : Elem) (o : Order) : s.Works (s.handCommand e o) :=
  Part.setField_kick_works rfl rfl id

theorem Part.placeField_works {s : Part} (h : s.fieldRoom = true) (f : Frame) (o : Option Elem) :
    s.Works (s.placeField f o) := by
  refine Part.setField_kick_works rfl rfl fun _ => ?_
  rw [List.length_append]
  exact of_decide_eq_true h

theorem Part.queueField_works (s : Part) (f : Frame) : s.Works (s.queueField f) := by
  unfold Part.queueField
  split
  next h => exact Part.placeField_works h f none
  next => exact s.countDiscard_works .station

theorem Part.disown_works (s : Part) (e : Elem) : s.Works (s.disown e) :=
  Part.setField_works (fun _ hg => ⟨hg, rfl⟩) fun h => by simpa using h

theorem Part.linkAlive_works (s : Part) (p : Port) : s.Works (s.linkAlive p) := by
  cases p with
  | field =>
    have hlink : ∀ l, s.Works (s.setField { s.field with link := l }) := fun l =>
      Part.setField_aside_works rfl rfl rfl
    exact (hlink _).ite ((hlink _).trans (Part.endCondition_works _ _ _))
  | station => exact Part.setStation_works id id

theorem Part.linkLost_works (s : Part) (p : Port) : s.Works (s.linkLost p) := by
  cases p with
  | field =>
    refine Part.Works.trans ?_ (Part.raise_works _ _ _ _)
    exact Part.setField_aside_works rfl rfl rfl
  | station =>
    refine Part.Works.trans ?_ (Part.raise_works _ _ _ _)
    exact Part.setStation_works id id

/-! ### The monitor -/

theorem Part.restartState_works (s : Part) (c : MonitorConfig) : s.Works (s.restartState c) := by
  have hstore : s.Works (s.setStore
      { entries := s.store.entries.map fun e => { e with epoch := false }, epochStart := s.timer.index + 1 }) :=
    Part.setStore_works rfl (fun _ => rfl) fun h e he => h.2 e he
  exact hstore.trans (Part.Works.of_eq rfl)

theorem Part.restart_works (s : Part) (c : MonitorConfig) : s.Works (s.restart c) := by
  have hstale : s.Works (s.endStale s.staleTowers) :=
    Part.Works.foldl (fun s t => s.endCondition_works .towerStale (.tower t)) _ s
  exact (hstale.trans (Part.restartState_works _ c)).trans (Part.setElems_works _ _)

theorem Part.restartPattern_works (s : Part) (p : Pat) : s.Works (s.restartPattern p) := s.restart_works _

theorem Part.restartIdle_works (s : Part) : s.Works s.restartIdle := s.restart_works _

theorem Part.raiseStale_works (s : Part) (ts : List Tower) : s.Works (s.raiseStale ts) := s.raiseEach_works _ _ _

/-! ### The Ramp Engine -/

theorem Part.setRamp_works (s : Part) (r : RampEngine) : s.Works (s.setRamp r) := Part.Works.of_eq rfl

theorem Part.orderRamp_works (s : Part) (level : Nat) : s.Works (s.orderRamp level) :=
  (s.setRamp_works _).trans (Part.setStation_works (fun h => by simpa using h) id)

theorem Part.testRamp_works (s : Part) : s.Works s.testRamp := (s.setRamp_works _).ite (Part.Works.refl s)

theorem Part.rampInPattern_works (s : Part) (level : Nat) : s.Works (s.rampInPattern level) :=
  (s.orderRamp_works level).trans (Part.testRamp_works _)

theorem Part.sendRamp_works (s : Part) : s.Works s.sendRamp :=
  (s.setRamp_works _).trans (Part.handPower_works _ _)

theorem Part.clampLicence_works (s : Part) : s.Works s.clampLicence := by
  rw [Part.clampLicence_eq]
  split
  · exact Part.Works.refl s
  · exact ((s.setRamp_works _).trans (Part.handPower_works _ _)).ite (s.setRamp_works _)

theorem Part.forceZero_works (s : Part) : s.Works s.forceZero := (s.setRamp_works _).trans (Part.handPower_works _ _)

theorem Part.raiseTrip_works (s : Part) : s.Works s.raiseTrip := s.raise_works _ _ _

/-! ### Commands, steps and presets -/

theorem Part.commandPart_works (s : Part) (e : Elem) (x : Order) (b : Bool) : s.Works (s.commandPart e x b) :=
  (s.modifyElem_works e _).trans (Part.handCommand_works _ e x)

theorem Part.settleStep_works (s : Part) (x : SwitchStep) : s.Works (s.settleStep x).2 := by
  unfold Part.settleStep
  split
  · exact s.commandPart_works _ _ _
  · exact Part.Works.refl s

theorem Part.settleSteps_works (l : List SwitchStep) : ∀ s : Part, s.Works (Part.settleSteps l s).2 := by
  induction l with
  | nil => exact Part.Works.refl
  | cons x l ih => exact fun s => (s.settleStep_works x).trans (ih _)

theorem Part.setWalk_works (s : Part) (x : SwitchEngine) : s.Works (s.setWalk x) := Part.Works.of_eq rfl

theorem Part.setSeq_works (s : Part) (x : Sequencer) : s.Works (s.setSeq x) := Part.Works.of_eq rfl

theorem Part.modifyChange_works (s : Part) (f : Change → Change) : s.Works (s.modifyChange f) := by
  unfold Part.modifyChange
  split
  · exact s.setSeq_works _
  · exact Part.Works.refl s

theorem Part.walkFrom_works (l : List (List SwitchStep)) : ∀ (k : Nat) (s : Part),
    s.Works (Part.walkFrom l k s).2 := by
  induction l with
  | nil => exact fun _ s => Part.Works.refl s
  | cons g gs ih =>
    intro k s
    have hgroup : s.Works (s.setGroup k) := s.modifyChange_works _
    have hsteps := hgroup.trans (Part.settleSteps_works g _)
    rw [Part.walkFrom]
    dsimp only
    split
    · exact hgroup.trans (Part.setWalk_works _ _)
    · split
      · split
        · exact (hsteps.trans (Part.setWalk_works _ _)).trans (ih _ _)
        · exact hsteps.trans (Part.setWalk_works _ _)
      · exact hsteps.trans (Part.setWalk_works _ _)

theorem Part.setTrim_works (s : Part) (x : TrimEngine) : s.Works (s.setTrim x) := Part.Works.of_eq rfl

theorem Part.presetEntry_works (s : Part) (a : ActuatorEntry) : s.Works (s.presetEntry a) :=
  ((s.setTrim_works _).ite (s.commandPart_works _ _ _)).ite (Part.Works.refl s)

theorem Part.presetAll_works (s : Part) (p : Pat) : s.Works (s.presetAll p) :=
  Part.Works.foldl Part.presetEntry_works _ s

theorem Part.presetAgain_works (s : Part) (p : Pat) (e : Elem) : s.Works (s.presetAgain p e) := by
  unfold Part.presetAgain
  dsimp only
  split
  · exact (s.setTrim_works _).trans (Part.presetEntry_works _ _)
  · exact s.setTrim_works _

end Sys2Proof.Machine
end

section
/-! SUPPORT. The course of a change, promotion, acceptance and the class reactions, as work inside an event. -/

namespace Sys2Proof.Machine

/-! ### The pending slot and the substatus -/

theorem Part.dropRequest_works (s : Part) (src : Source) : s.Works (s.dropRequest src) :=
  (s.raise_works .requestDropped (.request src) .d).trans (Part.setSeq_works _ _)

theorem Part.overrunRequest_works (s : Part) (src : Source) : s.Works (s.overrunRequest src) :=
  (s.raise_works .requestOverrun (.request src) .d).trans (Part.setSeq_works _ _)

theorem Part.emptySlot_works (s : Part) : s.Works s.emptySlot := by
  unfold Part.emptySlot
  split
  · exact Part.Works.refl s
  · exact (s.setSeq_works _).trans (Part.dropRequest_works _ _)

theorem Part.offerSlot_works (s : Part) (r : Request) : s.Works (s.offerSlot r) := by
  unfold Part.offerSlot
  dsimp only
  split
  · exact s.setSeq_works _
  · split
    · exact s.setSeq_works _
    · exact s.dropRequest_works _
    · exact (s.setSeq_works _).trans (Part.overrunRequest_works _ _)

theorem Part.degrade_works (s : Part) : s.Works s.degrade := by
  unfold Part.degrade
  split
  · dsimp only
    split
    · exact (s.setSeq_works _).trans (Part.rampInPattern_works _ _)
    · exact s.setSeq_works _
  · exact s.setSeq_works _
  all_goals exact Part.Works.refl s

theorem Part.raiseInPattern_works (s : Part) : s.Works s.raiseInPattern :=
  (((s.raiseEach_works _ _ _).trans (Part.raiseEach_works _ _ _ _)).thenIf (Part.raise_works _ _ _ _)).thenUnless
    (Part.raise_works _ _ _ _)

theorem Part.settleInPattern_works (s : Part) : s.Works s.settleInPattern :=
  (((s.setRaised_works []).trans (Part.raiseInPattern_works _)).thenUnless (Part.degrade_works _)).trans
    (Part.setRaised_works _ _)

/-! ### The phases

Where an event can end a change, the operations take the taking of the pending slot as an argument: `next`. -/

section
variable {next : Part → Part} (hn : ∀ s : Part, s.Works (next s))
include hn

theorem Part.enterStopped_works (s : Part) : s.Works (s.enterStopped next) :=
  (((s.forceZero_works.trans (Part.setSeq_works _ _)).trans (Part.restartIdle_works _)).thenIf
    (Part.endEventRecords_works _)).trans (hn _)

theorem Part.enterInPattern_works (p : Pat) (s : Part) : s.Works (s.enterInPattern next p) :=
  (((s.setSeq_works _).trans (Part.endEventRecords_works _)).trans (Part.settleInPattern_works _)).trans (hn _)

end

theorem Part.setPhase_works (s : Part) (ph : Phase) : s.Works (s.setPhase ph) := s.modifyChange_works _

theorem Part.setPhaseDeadline_works (s : Part) (d : Option Uptime) : s.Works (s.setPhaseDeadline d) :=
  s.modifyChange_works _

theorem Part.enterTrimming_works (p : Pat) (s : Part) : s.Works (s.enterTrimming p) :=
  ((s.setPhase_works _).trans (Part.restartPattern_works _ p)).trans (Part.modifyChange_works _ _)

theorem Part.enterRampToTrim_works (p : Pat) (s : Part) : s.Works (s.enterRampToTrim p) :=
  (((((s.setPhase_works _).trans (Part.setTrim_works _ _)).thenIf (Part.raiseTrip_works _)).trans
    (Part.setRamp_works _ _)).trans (Part.orderRamp_works _ _)).thenIf
    ((Part.setRamp_works _ _).trans (Part.enterTrimming_works p _))

theorem Part.endPresetting_works (p : Pat) (s : Part) : s.Works (s.endPresetting p) :=
  (Part.Works.refl s).ite (Part.enterRampToTrim_works p s)

theorem Part.enterPresetting_works (p : Pat) (s : Part) : s.Works (s.enterPresetting p) :=
  ((((s.setPhase_works _).trans (Part.restartPattern_works _ p)).trans (Part.clampLicence_works _)).trans
    (Part.presetAll_works _ p)).trans (Part.endPresetting_works p _)

theorem Part.verifySet_works (p : Pat) (s : Part) : s.Works (s.verifySet p) :=
  (((s.setWalk_works _).trans (Part.setPhaseDeadline_works _ _)).trans (Part.enterPresetting_works p _)).ite
    (s.raiseEach_works _ _ _)

theorem Part.walkOn_works (p : Pat) (k : Nat) (s : Part) : s.Works (s.walkOn p k) :=
  (Part.walkFrom_works _ k s).thenIf (Part.verifySet_works p _)

theorem Part.enterSwitching_works (p : Pat) (s : Part) : s.Works (s.enterSwitching p) :=
  ((s.setPhase_works _).trans (Part.setPhaseDeadline_works _ _)).trans (Part.walkOn_works p _ _)

theorem Part.enterMuting_works (p : Pat) (s : Part) : s.Works (s.enterMuting p) :=
  (((s.setPhase_works _).trans (Part.forceZero_works _)).trans (Part.setPhaseDeadline_works _ _)).thenIf
    (Part.enterSwitching_works p _)

theorem Part.refillTrim_works (s : Part) : s.Works s.refillTrim := (s.setElems_works _).trans (Part.setTrim_works _ _)

section
variable {next : Part → Part} (hn : ∀ s : Part, s.Works (next s))
include hn

theorem Part.rampCompleted_works (s : Part) : s.Works (s.rampCompleted next) := by
  unfold Part.rampCompleted
  split
  · exact Part.Works.refl s
  · split
    · exact Part.enterStopped_works hn s
    · exact Part.enterMuting_works _ s
    · exact Part.enterTrimming_works _ s
    · exact Part.enterInPattern_works hn _ s
    · exact Part.Works.refl s

theorem Part.settleRamp_works (s : Part) : s.Works (s.settleRamp next) :=
  ((s.setRamp_works _).trans (Part.rampCompleted_works hn _)).ite (Part.Works.refl s)

theorem Part.enterRampFinal_works (p : Pat) (s : Part) : s.Works (s.enterRampFinal next p) :=
  ((s.modifyChange_works _).trans (Part.orderRamp_works _ _)).trans (Part.settleRamp_works hn _)

theorem Part.enterRampDown_works (s : Part) : s.Works (s.enterRampDown next) :=
  (((s.setPhase_works _).trans (Part.clampLicence_works _)).trans (Part.orderRamp_works _ _)).trans
    (Part.settleRamp_works hn _)

theorem Part.enterPhases_works (s : Part) : s.Works (s.enterPhases next) := by
  have hdown := Part.enterRampDown_works hn s
  unfold Part.enterPhases
  split
  · exact Part.Works.refl s
  · split
    · exact hdown.ite (Part.enterStopped_works hn s)
    · exact (hdown.ite (Part.enterMuting_works _ s)).ite (Part.enterPresetting_works _ s)

theorem Part.startChange_works (s : Part) (src : Source) (target : Option Pat) (adopted : Bool) :
    s.Works (s.startChange next src target adopted) := by
  unfold Part.startChange
  dsimp only
  refine Part.Works.trans ?_ (Part.enterPhases_works hn _)
  refine Part.Works.trans ?_ (Part.setRamp_works _ _)
  exact (((((s.endCondition_works _ _).trans (Part.setSeq_works _ _)).ite (Part.Works.refl s)).trans
    (Part.setSeq_works _ _)).trans (Part.refillTrim_works _)).trans (Part.setTrim_works _ _)

end

/-! ### Promotion and acceptance -/

theorem Part.setRound_works (s : Part) (x : VerdictUnit) : s.Works (s.setRound x) := Part.Works.of_eq rfl

theorem Part.setTable_works (s : Part) (x : ReadingTable) : s.Works (s.setTable x) := Part.Works.of_eq rfl

theorem Part.setTables_works (s : Part) (x : Tables) : s.Works (s.setTables x) := Part.Works.of_eq rfl

theorem Part.setCorr_works (s : Part) (x : Correlator) : s.Works (s.setCorr x) := Part.Works.of_eq rfl

theorem Part.setSched_works (s : Part) (x : Scheduler) : s.Works (s.setSched x) := Part.Works.of_eq rfl

theorem Part.resetElement_works (s : Part) (e : Elem) : s.Works (s.resetElement e) :=
  (((((s.setRound_works _).ite (Part.Works.refl s)).trans (Part.modifyElem_works _ e _)).trans
    (Part.disown_works _ e)).trans (Part.setTrim_works _ _)).trans (Part.endCondition_works _ _ _)

theorem Part.raiseRfInSwitch_works (s : Part) : s.Works s.raiseRfInSwitch := s.raiseEach_works _ _ _

/-- R34: what is left of an entry holds no more than it did. -/
theorem Entry.prune_sound {e : Entry} (h : e.Sound) (installed : Tower → Bool) : (e.prune installed).Sound := by
  obtain ⟨hpair, hheld, hcombined⟩ := h
  refine ⟨hpair.sublist List.filter_sublist, fun x hx => ?_, fun hmem => hcombined (List.mem_of_mem_filter hmem)⟩
  obtain ⟨href, hnot⟩ := hheld x (List.mem_of_mem_filter hx)
  exact ⟨href, fun hmem => hnot (List.mem_of_mem_filter hmem)⟩

theorem Part.retower_works (s : Part) : s.Works s.retower := by
  have hprune : s.Works s.pruned := (s.setTable_works _).trans
    (Part.setStore_works (f := fun e => e.prune s.bank.installed) rfl (fun _ => rfl) fun h e he =>
      Entry.prune_sound (h.2 e he) _)
  exact ((hprune.trans (Part.restartIdle_works _)).trans (Part.setTable_works _ _)).thenIf
    (Part.raiseRfInSwitch_works _)

theorem Part.promote_works (s : Part) : s.Works s.promote :=
  (((s.setTables_works _).trans (Part.Works.foldl Part.resetElement_works _ _)).thenIf
    (Part.retower_works _)).thenUnless (Part.setSched_works _ _)

theorem Part.accept_works (s : Part) (src : Source) (target : Option Nat) : s.Works (s.accept src target).part := by
  unfold Part.accept
  split
  · exact Part.Works.refl s
  · split
    · exact Part.Works.refl s
    · exact s.promote_works.ite (Part.Works.refl s)

theorem Part.takeSlot_works (n : Nat) : ∀ s : Part, s.Works (Part.takeSlot n s) := by
  induction n with
  | zero => exact Part.Works.refl
  | succ n ih =>
    intro s
    rw [Part.takeSlot]
    split
    next => exact Part.Works.refl s
    next r _ =>
      have haccept := (s.setSeq_works { s.seq with slot := none }).trans
        (Part.accept_works _ r.source (r.target.map Fin.val))
      dsimp only
      split
      · exact haccept.trans (Part.startChange_works ih _ _ _ _)
      · exact haccept.trans (Part.dropRequest_works _ _)

theorem Part.slotTaken_works (s : Part) : s.Works s.slotTaken := Part.takeSlot_works 2 s

theorem Part.startNow_works (s : Part) (src : Source) (target : Option Nat) :
    s.Works (s.startNow src target).part := by
  unfold Part.startNow
  dsimp only
  split
  · exact (s.accept_works _ _).trans (Part.startChange_works Part.slotTaken_works _ _ _ _)
  · exact s.accept_works _ _

theorem Part.raiseRequest_works (s : Part) (src : Source) (target : Option Pat) :
    s.Works (s.raiseRequest src target) := by
  unfold Part.raiseRequest
  split
  · exact s.offerSlot_works _
  · dsimp only
    split
    · exact s.startNow_works _ _
    · exact (s.startNow_works _ _).trans (Part.dropRequest_works _ _)

/-! ### Reactions -/

theorem Part.stopEngines_works (s : Part) : s.Works s.stopEngines := (s.setWalk_works _).trans (Part.setTrim_works _ _)

theorem Part.halt_works (s : Part) : s.Works s.halt :=
  (Part.Works.refl s).thenUnless ((((s.emptySlot_works.trans (Part.endCondition_works _ _ _)).trans
    (Part.forceZero_works _)).trans (Part.stopEngines_works _)).trans (Part.setSeq_works _ _))

theorem Part.revert_works (cause : Cause) (s : Part) : s.Works (s.revert cause) :=
  ((((((s.modifyChange_works _).trans (Part.emptySlot_works _)).trans (Part.stopEngines_works _)).trans
    (Part.refillTrim_works _)).trans (Part.modifyChange_works _ _)).trans (Part.setRamp_works _ _)).trans
    (Part.enterPhases_works Part.slotTaken_works _)

theorem Part.giveUp_works (r : Raised) (p : Pat) (s : Part) : s.Works (s.giveUp r p) :=
  ((((s.setSeq_works _).trans (Part.rampInPattern_works _ _)).trans (Part.emptySlot_works _)).trans
    (Part.raiseUnder_works _ _ _ _ _ _)).trans (Part.raiseInPattern_works _)

theorem Part.turnBack_works (r : Raised) (s : Part) : s.Works (s.turnBack r) := by
  unfold Part.turnBack
  split
  · exact Part.Works.refl s
  · split
    · unfold Part.secondFailure
      split
      · exact s.halt_works
      · exact (Part.giveUp_works r _ s).ite s.halt_works
    all_goals exact Part.revert_works _ s

theorem Part.reactOnce_works (s : Part) : s.Works s.reactOnce := by
  have hforget := s.setRaised_works []
  unfold Part.reactOnce
  dsimp only
  split
  · exact hforget.trans (Part.halt_works _)
  · exact hforget.trans (Part.turnBack_works _ _)
  · exact hforget.trans (Part.degrade_works _)
  · exact hforget

theorem Part.react_works (n : Nat) : ∀ s : Part, s.Works (Part.react n s) := by
  induction n with
  | zero => exact fun s => s.setRaised_works []
  | succ n ih => exact fun s => (Part.Works.refl s).ite (s.reactOnce_works.trans (ih _))

theorem Part.settle_works (s : Part) : s.Works s.settle := Part.react_works 4 s

/-- What an event owes at its end, and the lines it leaves. -/
theorem Part.settle_drivePins_works (s : Part) : s.Works s.settle.drivePins :=
  s.settle_works.trans (Part.Works.of_eq rfl)

end Sys2Proof.Machine
end

section
/-! SUPPORT. The walk, QUIET, STATE entries, trim and verdicts, as work inside an event. -/

namespace Sys2Proof.Machine

/-! ### The walk and QUIET -/

theorem Part.groupTest_works (p : Pat) (c : Change) (s : Part) : s.Works (s.groupTest p c) :=
  (((s.setWalk_works _).trans (Part.walkOn_works p _ _)).ite (s.setWalk_works _)).ite (Part.Works.refl s)

theorem Part.settleEarliest_works (e : Elem) (l : List SwitchStep) : ∀ (os : List StepStatus) (s : Part),
    s.Works (Part.settleEarliest e l os s).2 := by
  induction l with
  | nil => exact fun _ s => Part.Works.refl s
  | cons x xs ih =>
    intro os s
    cases os with
    | nil => exact Part.Works.refl s
    | cons o os =>
      rw [Part.settleEarliest]
      split
      · split
        · exact s.settleStep_works x
        · exact Part.Works.refl s
      · exact ih os s

theorem Part.walkHears_works (e : Elem) (failed : Bool) (s : Part) : s.Works (s.walkHears e failed) := by
  unfold Part.walkHears
  split
  · split
    · exact Part.Works.refl s
    · exact ((Part.settleEarliest_works e _ _ s).trans (Part.setWalk_works _ _)).trans (Part.groupTest_works _ _ _)
  · exact Part.Works.refl s

theorem Part.settleWaiting_works (l : List SwitchStep) : ∀ (os : List StepStatus) (s : Part),
    s.Works (Part.settleWaiting l os s).2 := by
  induction l with
  | nil => exact fun _ s => Part.Works.refl s
  | cons x xs ih =>
    intro os s
    cases os with
    | nil => exact Part.Works.refl s
    | cons o os =>
      rw [Part.settleWaiting]
      split
      · exact (s.settleStep_works x).trans (ih os _)
      · exact ih os s

theorem Part.dwellOver_works (s : Part) : s.Works s.dwellOver := by
  unfold Part.dwellOver
  split
  · exact Part.Works.refl s
  · split
    · exact Part.Works.refl s
    · exact (s.setWalk_works _).trans (Part.walkOn_works _ _ _)

theorem Part.walkResumes_works (p : Pat) (c : Change) (s : Part) : s.Works (s.walkResumes p c) := by
  unfold Part.walkResumes
  split
  · exact Part.walkOn_works p _ s
  · exact ((Part.settleWaiting_works _ _ s).trans (Part.setWalk_works _ _)).trans (Part.groupTest_works p c _)
  all_goals exact Part.Works.refl s

theorem Part.quietLost_works (s : Part) : s.Works s.quietLost :=
  ((s.setPhaseDeadline_works _).ite (Part.Works.refl s)).ite s.raiseRfInSwitch_works

theorem Part.quietGained_works (s : Part) : s.Works s.quietGained := by
  unfold Part.quietGained
  split
  · exact Part.Works.refl s
  · split
    · exact Part.enterSwitching_works _ s
    · exact (s.setPhaseDeadline_works none).trans (Part.walkResumes_works _ _ _)
    · exact Part.Works.refl s

theorem Part.evaluateQuiet_works (s : Part) : s.Works s.evaluateQuiet := by
  have hquiet := s.setTable_works { s.table with quiet := s.quietNow }
  exact (hquiet.trans (Part.quietLost_works _)).ite ((hquiet.trans (Part.quietGained_works _)).ite hquiet)

/-! ### The end of a command, STATE entries and deadlines -/

theorem Part.trimHears_works (e : Elem) (s : Part) : s.Works (s.trimHears e) := by
  unfold Part.trimHears
  split
  · exact Part.Works.refl s
  · split
    · exact (s.presetAgain_works _ e).ite (Part.Works.refl s)
    · exact Part.Works.refl s

theorem Part.testPresets_works (s : Part) : s.Works s.testPresets := by
  unfold Part.testPresets
  split
  · exact Part.Works.refl s
  · split
    · exact Part.endPresetting_works _ s
    · exact Part.Works.refl s

theorem Part.dropCommand_works (s : Part) (e : Elem) (c : Command) (f : Option FaultKind) :
    s.Works (s.dropCommand e c f) := (s.modifyElem_works e _).trans (Part.disown_works _ e)

theorem Part.endCommand_works (s : Part) (e : Elem) (f : Option FaultKind) : s.Works (s.endCommand e f) := by
  unfold Part.endCommand
  split
  next => exact Part.Works.refl s
  next c _ =>
    have htold : s.Works (if c.order.isContact then (s.dropCommand e c f).walkHears e f.isSome
        else ((s.dropCommand e c f).trimHears e).abandonRound.testPresets) :=
      (s.dropCommand_works e c f).trans ((Part.walkHears_works e _ _).ite
        (((Part.trimHears_works e _).trans (Part.setRound_works _ _)).trans (Part.testPresets_works _)))
    dsimp only
    split
    · exact htold
    · exact htold.trans (Part.raise_works _ _ _ _)

theorem Part.raiseDrift_works (s : Part) (e : Elem) (q : Bool) : s.Works (s.raiseDrift e q) :=
  (s.raise_works _ _ _).ite (s.raise_works _ _ _)

/-- R99: what an entry reports is recorded, and the element's silence ends. -/
theorem Part.report_works (s : Part) (e : Elem) (f : ElemRecord → ElemRecord) :
    s.Works ((s.modifyElem e f).endCondition .elementSilent (.element e)) :=
  (s.modifyElem_works e f).trans (Part.endCondition_works _ _ _)

theorem Part.applyContact_works (s : Part) (e : Elem) (new : ContactState) : s.Works (s.applyContact e new) := by
  have hreport := s.report_works e
  unfold Part.applyContact
  dsimp only
  refine Part.Works.thenIf (Part.Works.thenIf ?_ (Part.modifyElem_works _ _ _)) (Part.raiseDrift_works _ _ _)
  split
  · exact (hreport _).thenIf (Part.raise_works _ _ _ _)
  · exact ((hreport _).trans (Part.endCommand_works _ _ _)).ite ((hreport _).thenIf (Part.endCommand_works _ _ _))

theorem Part.applyMotion_works (s : Part) (e : Elem) (new : Motion) (pos : Nat) :
    s.Works (s.applyMotion e new pos) := by
  have hreport := s.report_works e
  unfold Part.applyMotion
  dsimp only
  split
  · exact hreport _
  · split
    · exact (hreport _).thenIf (Part.endCommand_works _ _ _)
    · exact (hreport _).trans (Part.endCommand_works _ _ _)
    · exact hreport _

theorem Part.stateEntry_works (s : Part) (node : Byte) (channel code pos : Nat) :
    s.Works (s.stateEntry node channel code pos) := by
  unfold Part.stateEntry
  split
  · exact Part.Works.refl s
  · split
    · exact Part.Works.refl s
    · split
      · exact (s.applyContact_works _ _).trans (Part.settle_works _)
      · exact Part.Works.refl s
    · split
      · exact (s.applyMotion_works _ _ _).trans (Part.settle_works _)
      · exact Part.Works.refl s

theorem Part.stateEntries_works (node : Byte) (l : List Byte) (s : Part) : s.Works (Part.stateEntries node l s) := by
  fun_induction Part.stateEntries node l s with
  | case1 ch code hi lo rest s ih => exact (s.stateEntry_works _ _ _ _).trans ih
  | case2 l s => exact Part.Works.refl s

theorem Part.fallSilent_works (s : Part) (e : Elem) : s.Works (s.fallSilent e) :=
  (s.modifyElem_works e _).trans (Part.raise_works _ _ _ _)

theorem Part.commandExpires_works (s : Part) (e : Elem) (c : Command) : s.Works (s.commandExpires e c) := by
  unfold Part.commandExpires
  split
  · exact s.endCommand_works _ _
  · exact ((s.modifyElem_works e _).trans (Part.handCommand_works _ _ _)).ite (s.endCommand_works _ _)

/-! ### Trim -/

theorem Part.takeStep_works (s : Part) (a : ActuatorEntry) (pos : Nat) (step : Int) :
    s.Works (s.takeStep a pos step) :=
  ((s.commandPart_works _ _ _).trans (Part.modifyElem_works _ _ _)).ite
    ((((s.raise_works _ _ _).trans (Part.setTrim_works _ _)).ite (Part.Works.refl s)).trans
      (Part.modifyElem_works _ _ _))

theorem Part.trimEntry_works (p : Pat) (a : ActuatorEntry) (s : Part) : s.Works (Part.trimEntry p a s).2 := by
  have hcount : s.Works (s.countSettle a.elem) := (s.modifyElem_works _ _).ite (Part.Works.refl s)
  unfold Part.trimEntry
  dsimp only
  split
  · exact hcount
  · split
    · split
      · exact hcount
      · split
        · split
          · exact hcount
          · exact hcount.trans (Part.takeStep_works _ _ _ _)
        · exact hcount
    · exact hcount

theorem Part.trimEntries_works (p : Pat) (l : List ActuatorEntry) : ∀ (out : List Elem) (s : Part),
    s.Works (Part.trimEntries p l out s).2 := by
  induction l with
  | nil => exact fun _ s => Part.Works.refl s
  | cons a l ih => exact fun out s => (Part.trimEntry_works p a s).trans (ih _ _)

theorem Part.exhaust_works (s : Part) (es : List Elem) : s.Works (s.exhaust es) :=
  ((s.setTrim_works _).ite (Part.Works.refl s)).trans (Part.raiseEach_works _ _ _ _)

theorem Part.trimClose_works (s : Part) (t : Tower) : s.Works (s.trimClose t) := by
  unfold Part.trimClose
  split
  · exact Part.Works.refl s
  · exact (Part.trimEntries_works _ _ _ s).trans (Part.exhaust_works _ _)

/-! ### Verdicts and rounds -/

theorem Part.verifying_works (p : Pat) (n : Nat) (s : Part) : s.Works (s.verifying p n) :=
  (s.modifyChange_works _).thenIf (Part.enterRampFinal_works Part.slotTaken_works p _)

theorem Part.changeVerdict_works (v : Verdict) (c : Change) (s : Part) : s.Works (s.changeVerdict v c) := by
  unfold Part.changeVerdict
  split
  · exact Part.verifying_works _ _ s
  · exact Part.verifying_works _ _ s
  · exact s.modifyChange_works _
  · exact Part.Works.refl s

theorem Part.ootRises_works (p : Pat) (s : Part) : s.Works (s.ootRises p) :=
  (s.setSeq_works _).thenIf (Part.raise_works _ _ _ _)

theorem Part.ootClears_works (s : Part) : s.Works s.ootClears :=
  (s.endCondition_works _ _).trans (Part.setSeq_works _ _)

theorem Part.restoreCounts_works (p : Pat) (s : Part) : s.Works (s.restoreCounts p) :=
  (Part.Works.refl s).thenUnless ((s.setSeq_works _).thenIf
    ((Part.setSeq_works _ _).trans (Part.rampInPattern_works _ _)))

theorem Part.patternVerdict_works (v : Verdict) (p : Pat) (s : Part) : s.Works (s.patternVerdict v p) := by
  unfold Part.patternVerdict
  split
  · exact Part.Works.refl s
  · exact (s.setSeq_works _).thenUnless (Part.ootRises_works p _)
  · have hclear : s.Works (if s.lines.txTrip then s else s.ootClears) :=
      (Part.Works.refl s).thenUnless s.ootClears_works
    dsimp only
    split
    · exact hclear.trans (Part.restoreCounts_works p _)
    · exact hclear

theorem Part.sequencerVerdict_works (v : Verdict) (s : Part) : s.Works (s.sequencerVerdict v) := by
  unfold Part.sequencerVerdict
  split
  · exact Part.changeVerdict_works v _ s
  · exact Part.patternVerdict_works v _ s
  · exact Part.Works.refl s

theorem Part.trimVerdict_works (v : Verdict) (s : Part) : s.Works (s.trimVerdict v) := by
  unfold Part.trimVerdict
  split
  · exact (s.setElems_works _).ite (Part.Works.refl s)
  · exact Part.Works.refl s

theorem Part.completeRound_works (s : Part) : s.Works s.completeRound := by
  have hjudge : s.Works s.judge := (s.setTable_works _).trans (Part.setRound_works _ _)
  exact (((hjudge.trans (Part.handMonitor_works _ _)).trans (Part.sequencerVerdict_works _ _)).trans
    (Part.trimVerdict_works _ _)).trans (Part.setRound_works _ _)

theorem Part.testRound_works (s : Part) : s.Works s.testRound := s.completeRound_works.ite (Part.Works.refl s)

/-! ### Windows, weighing and aging -/

theorem Part.closeWindow_works (s : Part) (t : Tower) : s.Works (s.closeWindow t) :=
  ((((((s.setTable_works _).thenIf (Part.raise_works _ _ _ _)).thenIf (Part.endCondition_works _ _ _)).trans
    (Part.setCorr_works _ _)).trans (Part.trimClose_works _ t)).trans (Part.setRound_works _ _)).trans
    (Part.testRound_works _)

theorem Part.addItem_works (s : Part) (t : Tower) (add : Accum → Accum) : s.Works (s.addItem t add) :=
  (s.setCorr_works _).thenIf (Part.closeWindow_works _ t)

theorem Part.weigh_works (s : Part) (q : Nat) (t : Tower) (x : Block) : s.Works (s.weigh q t x) :=
  ((s.setTable_works _).trans (Part.evaluateQuiet_works _)).ite (Part.Works.refl s)

theorem Part.strayArrival_works (s : Part) (t : Tower) (b : BitVec 16) : s.Works (s.strayArrival t b) :=
  (s.setTable_works _).ite (s.raise_works _ _ _)

theorem Part.ageReadings_works (s : Part) : s.Works s.ageReadings :=
  (s.setTable_works _).trans (Part.raiseStale_works _ _)

theorem Part.coverStale_works (s : Part) : s.Works s.coverStale :=
  Part.Works.foldl (fun s _ => s.setRound_works _) _ s

/-! ### The schedule -/

theorem Part.scheduleActs_works (s : Part) : s.Works s.scheduleActs := by
  unfold Part.scheduleActs
  split
  · exact s.setSched_works _
  · split
    · exact Part.Works.refl s
    · exact (Part.Works.refl s).ite ((s.setSched_works _).ite
        ((s.setSched_works _).trans (Part.raiseRequest_works _ _ _)))

theorem Part.evaluate_works (s : Part) : s.Works s.evaluate :=
  (s.setSched_works _).trans (Part.scheduleActs_works _)

theorem Part.evaluateOwed_works (s : Part) : s.Works s.evaluateOwed := by
  unfold Part.evaluateOwed
  dsimp only
  refine Part.Works.thenUnless ((s.setSched_works _).trans (Part.setSched_works _ _)) ?_
  split
  · exact Part.Works.refl _
  · exact (Part.Works.refl _).thenUnless ((Part.setSched_works _ _).trans (Part.raiseRequest_works _ _ _))

theorem Part.scheduleDue_works (s : Part) : s.Works s.scheduleDue :=
  (s.setSched_works _).trans (Part.evaluate_works _)

theorem Part.evaluateRelease_works (s : Part) : s.Works s.evaluateRelease :=
  s.evaluateOwed_works.ite s.evaluate_works

end Sys2Proof.Machine
end

section
/-! SUPPORT. The Pairing Store: its entries, arrivals and block starts. -/

namespace Sys2Proof.Machine

/-! ### Towers and blocks in an entry -/

theorem mem_addTower {l : List Tower} {t u : Tower} : u ∈ addTower l t ↔ u = t ∨ u ∈ l := by
  induction l with
  | nil => simp [addTower]
  | cons a l ih =>
    rw [addTower]
    split
    · simp
    · split
      next h => simp [h]
      next =>
        simp only [List.mem_cons, ih]
        tauto

theorem mem_addHeld {l : List (Tower × Block)} {t : Tower} {b : Block} {x : Tower × Block} (h : x ∈ addHeld l t b) :
    x = (t, b) ∨ x ∈ l := by
  induction l with
  | nil => exact .inl (List.mem_singleton.mp h)
  | cons a l ih =>
    rw [addHeld] at h
    split at h
    · exact List.mem_cons.mp h
    · split at h
      · exact (List.mem_cons.mp h).imp_right (List.mem_cons_of_mem a)
      · rcases List.mem_cons.mp h with rfl | h
        · exact .inr List.mem_cons_self
        · exact (ih h).imp_right (List.mem_cons_of_mem a)

/-- R22: a tower that is not held is added without holding one twice. -/
theorem addHeld_pairwise {l : List (Tower × Block)} {t : Tower} (b : Block) (hl : l.Pairwise fun x y => x.1 ≠ y.1)
    (ht : ∀ x ∈ l, x.1 ≠ t) : (addHeld l t b).Pairwise fun x y => x.1 ≠ y.1 := by
  induction l with
  | nil => exact List.pairwise_singleton _ _
  | cons a l ih =>
    obtain ⟨ha, hl'⟩ := List.pairwise_cons.mp hl
    have hat := ht a List.mem_cons_self
    have hlt : ∀ x ∈ l, x.1 ≠ t := fun x hx => ht x (List.mem_cons_of_mem a hx)
    rw [addHeld]
    split
    · exact List.pairwise_cons.mpr ⟨fun x hx => (ht x hx).symm, hl⟩
    · rw [if_neg (Ne.symm hat)]
      refine List.pairwise_cons.mpr ⟨fun x hx => ?_, ih hl' hlt⟩
      rcases mem_addHeld hx with rfl | hx
      · exact hat
      · exact ha x hx

/-- R22: a tower has a block in an entry. -/
theorem Entry.has_iff {e : Entry} {t : Tower} :
    e.has t = true ↔ (t = e.refTower ∧ e.refBlock ≠ none) ∨ (∃ x, (t, x) ∈ e.held) ∨ t ∈ e.combined := by
  simp [Entry.has, Option.isSome_iff_ne_none, or_assoc]

/-- R31: a block held for a tower that has none in the entry. -/
theorem Entry.hold_sound {e : Entry} (h : e.Sound) {t : Tower} (x : Block) (ht : e.has t = false)
    (href : t ≠ e.refTower) : Entry.Sound { e with held := addHeld e.held t x } := by
  obtain ⟨hpair, hheld, hcombined⟩ := h
  have hnone : ¬(e.has t = true) := by simp [ht]
  rw [Entry.has_iff] at hnone
  push Not at hnone
  obtain ⟨-, hnotHeld, hnotCombined⟩ := hnone
  refine ⟨addHeld_pairwise x hpair fun y hy he => hnotHeld y.2 (he ▸ hy), fun y hy => ?_, hcombined⟩
  rcases mem_addHeld hy with rfl | hy
  · exact ⟨href, hnotCombined⟩
  · exact hheld y hy

/-- R32: what combining a tower's block makes of its entry. -/
def Entry.join (e : Entry) (k : Tower) : Entry :=
  { e with held := e.held.filter (fun y => y.1 ≠ k), combined := addTower e.combined k }

theorem Entry.join_sound {e : Entry} (h : e.Sound) {k : Tower} (href : k ≠ e.refTower) : (e.join k).Sound := by
  obtain ⟨hpair, hheld, hcombined⟩ := h
  refine ⟨hpair.sublist List.filter_sublist, fun y hy => ?_, fun hmem => ?_⟩
  · obtain ⟨hy, hk⟩ := List.mem_filter.mp hy
    obtain ⟨hyref, hynot⟩ := hheld y hy
    refine ⟨hyref, fun hmem => ?_⟩
    rcases mem_addTower.mp hmem with he | hmem
    · exact of_decide_eq_true hk he
    · exact hynot hmem
  · rcases mem_addTower.mp hmem with he | hmem
    · exact href he.symm
    · exact hcombined hmem

/-! ### The entry of an index -/

theorem Part.mem_of_entryOf {s : Part} {b : BitVec 16} {e : Entry} (h : s.entryOf b = some e) :
    e ∈ s.store.entries ∧ e.index = b :=
  ⟨List.mem_of_find?_eq_some h, by simpa using List.find?_some h⟩

/-- R22: the entry of an index is the only one. -/
theorem Part.eq_of_index {s : Part} (hs : s.store.entries.Pairwise fun x y => x.index ≠ y.index) {e y : Entry}
    (he : e ∈ s.store.entries) (hy : y ∈ s.store.entries) (h : y.index = e.index) : y = e :=
  List.inj_on_of_nodup_map (List.pairwise_map.mpr hs) hy he h

theorem Part.entryOf_of_mem {s : Part} (hs : s.store.entries.Pairwise fun x y => x.index ≠ y.index) {e : Entry}
    (he : e ∈ s.store.entries) : s.entryOf e.index = some e := by
  cases h : s.entryOf e.index with
  | none =>
    rw [Part.entryOf, List.find?_eq_none] at h
    exact absurd (beq_self_eq_true e.index) (h e he)
  | some y =>
    obtain ⟨hy, hi⟩ := Part.mem_of_entryOf h
    rw [Part.eq_of_index hs he hy hi]

theorem Part.entryOf_eq_none {s : Part} {b : BitVec 16} :
    s.entryOf b = none ↔ ∀ e ∈ s.store.entries, e.index ≠ b := by
  rw [Part.entryOf, List.find?_eq_none]
  simp

/-- The entry of an index rewritten, its index kept. -/
theorem Part.modifyEntry_works {s : Part} {b : BitVec 16} {f : Entry → Entry} (hi : ∀ e, (f e).index = e.index)
    (hf : s.StoreSound → ∀ e, s.entryOf b = some e → (f e).Sound) : s.Works (s.modifyEntry b f) := by
  refine Part.setStore_works rfl (fun e => ?_) fun hs e he => ?_
  · split
    · exact hi e
    · rfl
  · split
    next hb => exact hf hs e (hb ▸ Part.entryOf_of_mem hs.1 he)
    next => exact hs.2 e he

theorem Part.retire_stays (s : Part) (b : BitVec 16) : s.Stays (s.retire b) :=
  Part.setStore_sublist_stays List.filter_sublist

/-! ### Arrivals -/

/-- R32: a combination of a tower that is not the entry's reference tower. -/
theorem Part.combine_works {s : Part} {b : BitVec 16} {k : Tower} (x : Block)
    (hk : s.StoreSound → ∀ e, s.entryOf b = some e → k ≠ e.refTower) : s.Works (s.combine b k x) := by
  have hjoin : s.Works (s.modifyEntry b fun e => e.join k) :=
    Part.modifyEntry_works (fun _ => rfl) fun hs e he =>
      Entry.join_sound (hs.2 e (Part.mem_of_entryOf he).1) (hk hs e he)
  unfold Part.combine
  split
  · exact Part.Works.refl s
  · split
    · exact Part.Works.refl s
    · exact hjoin.thenIf (Part.addItem_works _ k _)

/-- R29: the towers that an entry holds are none of them its reference tower. -/
theorem Part.combineHeld_works (b : BitVec 16) (l : List Tower) : ∀ s : Part, s.Works (Part.combineHeld b l s) := by
  induction l with
  | nil => exact Part.Works.refl
  | cons k ks ih =>
    intro s
    rw [Part.combineHeld]
    refine Part.Works.trans ?_ (ih _)
    split
    next y hy =>
      obtain ⟨e, he, hfind⟩ := Option.bind_eq_some_iff.mp hy
      have hkey : y.1 = k := by simpa using List.find?_some hfind
      refine Part.combine_works y.2 fun hs e' he' => ?_
      obtain rfl : e = e' := Option.some.inj (he.symm.trans he')
      exact hkey ▸ ((hs.2 e (Part.mem_of_entryOf he).1).2.1 y (List.mem_of_find?_eq_some hfind)).1
    next => exact Part.Works.refl s

theorem Part.referenceArrival_stays (s : Part) (e : Entry) (x : Block) : s.Stays (s.referenceArrival e x) := by
  have hstore : s.Works (s.modifyEntry e.index fun e => { e with refBlock := some x }) :=
    Part.modifyEntry_works (fun _ => rfl) fun hs y hy => hs.2 y (Part.mem_of_entryOf hy).1
  exact (((hstore.thenIf (Part.addItem_works _ _ _)).trans (Part.combineHeld_works _ _ _)).trans
    (Part.weigh_works _ _ _ x)).toStays.trans (Part.retire_stays _ _)

theorem Part.pairArrival_stays {s : Part} {t : Tower} {e : Entry} (he : s.entryOf e.index = some e)
    (ht : e.has t = false) (x : Block) : s.Stays (s.pairArrival t e x) := by
  have hentry : ∀ y, s.entryOf e.index = some y → y = e := fun y hy => Option.some.inj (hy.symm.trans he)
  unfold Part.pairArrival
  split
  next => exact s.referenceArrival_stays e x
  next href =>
    have hcombine : s.Works (s.combine e.index t x) := Part.combine_works x fun _ y hy => hentry y hy ▸ href
    have hhold : s.Works (s.modifyEntry e.index fun e => { e with held := addHeld e.held t x }) :=
      Part.modifyEntry_works (fun _ => rfl) fun hs y hy =>
        Entry.hold_sound (hs.2 y (Part.mem_of_entryOf hy).1) x (hentry y hy ▸ ht) (hentry y hy ▸ href)
    exact ((hcombine.ite hhold).trans (Part.weigh_works _ _ t x)).toStays.trans (Part.retire_stays _ _)

theorem Part.arrival_stays (s : Part) (t : Tower) (payload : List Byte) : s.Stays (s.arrival t payload) := by
  unfold Part.arrival
  dsimp only
  split
  next => exact (s.strayArrival_works _ _).toStays
  next e he =>
    split
    next => exact (Part.Works.refl s).toStays
    next hhas => exact Part.pairArrival_stays ((Part.mem_of_entryOf he).2.symm ▸ he) (by simpa using hhas) _

/-! ### Block starts -/

/-- R24: the entries that an eviction leaves, and what may follow from QUIET. -/
theorem Part.evict_works (s : Part) (e : Entry) (rest : List Entry) :
    (s.setStore { s.store with entries := rest }).Works (s.evict e rest) :=
  (Part.setTable_works _ _).trans (Part.evaluateQuiet_works _)

theorem Part.evict_stays {s : Part} (e : Entry) {rest : List Entry} (h : rest.Sublist s.store.entries) :
    s.Stays (s.evict e rest) :=
  (Part.setStore_sublist_stays h).trans (s.evict_works e rest).toStays

theorem Part.closeOld_stays (s : Part) (i : BitVec 16) : s.Stays (s.closeOld i) := by
  unfold Part.closeOld
  split
  · exact (Part.Works.refl s).toStays
  · exact Part.evict_stays _ List.filter_sublist

/-- R22: an entry of the new index is closed, and no other. -/
theorem Part.closeOld_indices (s : Part) (i : BitVec 16) : (s.closeOld i).store.entries.map Entry.index =
    (s.store.entries.filter fun e => decide (e.index ≠ i)).map Entry.index := by
  unfold Part.closeOld
  split
  next h =>
    rw [List.filter_eq_self.mpr fun e he => decide_eq_true (Part.entryOf_eq_none.mp h e he)]
  next e _ => exact (s.evict_works e _).indices

theorem Part.evictOldest_stays (s : Part) : s.Stays s.evictOldest := by
  unfold Part.evictOldest
  split
  next => exact (Part.Works.refl s).toStays
  next e rest h =>
    split
    · exact Part.evict_stays e (h ▸ List.sublist_cons_self e rest)
    · exact (Part.Works.refl s).toStays

/-- R23: the oldest of eight entries is evicted. -/
theorem Part.evictOldest_indices (s : Part) : s.evictOldest.store.entries.map Entry.index =
    if 8 ≤ (s.store.entries.map Entry.index).length then (s.store.entries.map Entry.index).tail
    else s.store.entries.map Entry.index := by
  rw [List.length_map]
  unfold Part.evictOldest
  split
  next h => simp [h]
  next e rest h =>
    split
    · rw [h]
      exact (s.evict_works e rest).indices
    · rfl

theorem Part.makeRoom_stays (s : Part) (i : BitVec 16) : s.Stays (s.makeRoom i) :=
  (s.closeOld_stays i).trans (Part.evictOldest_stays _)

/-- R22, R23: the entries that are left when room is made for an index: those of another index, without the oldest of
eight. -/
def roomFor (l : List Entry) (i : BitVec 16) : List Entry :=
  let l := l.filter fun e => decide (e.index ≠ i)
  if 8 ≤ l.length then l.tail else l

theorem Part.makeRoom_indices (s : Part) (i : BitVec 16) :
    (s.makeRoom i).store.entries.map Entry.index = (roomFor s.store.entries i).map Entry.index := by
  rw [Part.makeRoom, Part.evictOldest_indices, Part.closeOld_indices, List.length_map, roomFor]
  split
  · rw [List.map_tail]
  · rfl

theorem roomFor_length {l : List Entry} (h : l.length ≤ 8) (i : BitVec 16) : (roomFor l i).length < 8 := by
  have hfilter := List.length_filter_le (fun e : Entry => decide (e.index ≠ i)) l
  unfold roomFor
  dsimp only
  split
  · rw [List.length_tail]
    omega
  · omega

theorem ne_of_mem_roomFor {l : List Entry} {i : BitVec 16} {e : Entry} (h : e ∈ roomFor l i) : e.index ≠ i := by
  unfold roomFor at h
  dsimp only at h
  split at h
  · exact of_decide_eq_true (List.mem_filter.mp (List.mem_of_mem_tail h)).2
  · exact of_decide_eq_true (List.mem_filter.mp h).2

/-- R22, R23: an entry is opened where room has been made for it. -/
theorem Part.openRoom_stays (s : Part) (i : BitVec 16) : s.Stays ((s.makeRoom i).openEntry i) := by
  have hroom := s.makeRoom_stays i
  have hindices := s.makeRoom_indices i
  refine { hroom with keeps := { hroom.keeps with entries := fun h => ?_, sound := fun hs => ?_ } }
  · have hlength := roomFor_length h i
    rw [← List.length_map (f := Entry.index), ← hindices, List.length_map] at hlength
    simpa [Part.openEntry] using hlength
  · obtain ⟨hpair, hsound⟩ := hroom.keeps.sound hs
    refine ⟨List.pairwise_append.mpr ⟨hpair, List.pairwise_singleton _ _, fun x hx y hy => ?_⟩, fun e he => ?_⟩
    · obtain rfl := List.mem_singleton.mp hy
      obtain ⟨e, he, hindex⟩ := List.mem_map.mp (hindices ▸ List.mem_map_of_mem (f := Entry.index) hx)
      exact hindex ▸ ne_of_mem_roomFor he
    · rcases List.mem_append.mp he with he | he
      · exact hsound e he
      · obtain rfl := List.mem_singleton.mp he
        exact ⟨List.Pairwise.nil, fun _ h => absurd h List.not_mem_nil, List.not_mem_nil⟩

/-- R20 to R24, R52, R62: a block start behind its BLOCK_START frame. -/
def Part.openBlock (s : Part) (i : BitVec 16) : Part :=
  ((s.makeRoom i).openEntry i).ageReadings.coverStale.testRound

theorem Part.startBlock_eq (s : Part) : s.startBlock =
    ((s.setTimer { s.timer with index := s.timer.index + 1 }).handBlockStart (s.timer.index + 1)).openBlock
      (s.timer.index + 1) := rfl

/-- R52, R62: what a block start does once its entry is open. -/
theorem Part.openBlock_works (s : Part) (i : BitVec 16) : ((s.makeRoom i).openEntry i).Works (s.openBlock i) :=
  ((Part.ageReadings_works _).trans (Part.coverStale_works _)).trans (Part.testRound_works _)

theorem Part.openBlock_stays (s : Part) (i : BitVec 16) : s.Stays (s.openBlock i) :=
  (s.openRoom_stays i).trans (s.openBlock_works i).toStays

theorem Part.openBlock_indices (s : Part) (i : BitVec 16) :
    (s.openBlock i).store.entries.map Entry.index = (roomFor s.store.entries i).map Entry.index ++ [i] := by
  rw [(s.openBlock_works i).indices, ← s.makeRoom_indices i]
  exact List.map_append

theorem Part.handBlockStart_keeps (s : Part) (i : BitVec 16) : s.Keeps (s.handBlockStart i) := by
  have hwait : s.Keeps (s.setField { s.field with blockStart := some i }) := ⟨id, id, id, id, id, id, id⟩
  exact hwait.trans (Part.fieldKick_works _).keeps

theorem Part.setTimer_keeps (s : Part) (x : BlockTimer) : s.Keeps (s.setTimer x) := ⟨id, id, id, id, id, id, id⟩

theorem Part.startBlock_keeps (s : Part) : s.Keeps s.startBlock :=
  ((s.setTimer_keeps _).trans (Part.handBlockStart_keeps _ _)).trans (Part.openBlock_stays _ _).keeps

end Sys2Proof.Machine
end

section
/-! SUPPORT. Requests, frames, expiries and resets, and what they keep of the lists. -/

namespace Sys2Proof.Machine

/-! ### Management requests -/

theorem Part.readBlock_works (src tag n : Byte) (s : Part) : s.Works (s.readBlock src tag n) :=
  (s.answer_works _ _ _ _ _).ite (s.answer_works _ _ _ _ _)

theorem Part.acceptWrite_works (n : Nat) (data : List Byte) (s : Part) : s.Works (s.acceptWrite n data) := by
  unfold Part.acceptWrite
  split
  · exact (s.setTables_works _).thenIf
      ((Part.clampLicence_works _).trans (Part.settleRamp_works Part.slotTaken_works _))
  · exact (s.setTables_works _).ite ((s.setTables_works _).trans (Part.evaluate_works _))

theorem Part.writeBlock_works (src tag n : Byte) (data : List Byte) (s : Part) :
    s.Works (s.writeBlock src tag n data) := by
  unfold Part.writeBlock
  split
  · exact s.answer_works _ _ _ _ _
  · split
    · exact s.answer_works _ _ _ _ _
    · exact (Part.acceptWrite_works _ _ s).trans (Part.answer_works _ _ _ _ _ _)

theorem Part.commit_works (src tag : Byte) (s : Part) : s.Works (s.commit src tag) := by
  unfold Part.commit
  split
  all_goals exact (s.setTables_works _).trans (Part.answer_works _ _ _ _ _ _)

theorem Part.request_works (src tag : Byte) (code : RequestCode) (target : Option Nat) (s : Part) :
    s.Works (s.request src tag code target) := by
  unfold Part.request
  split
  · exact s.answer_works _ _ _ _ _
  · split
    · split
      · exact (s.offerSlot_works _).trans (Part.answer_works _ _ _ _ _ _)
      · split
        · exact (s.offerSlot_works _).trans (Part.answer_works _ _ _ _ _ _)
        · exact s.answer_works _ _ _ _ _
    · dsimp only
      split
      all_goals exact (s.startNow_works _ _).trans (Part.answer_works _ _ _ _ _ _)

theorem Part.abort_works (src tag : Byte) (s : Part) : s.Works (s.abort src tag) := by
  unfold Part.abort
  split
  · exact s.answer_works _ _ _ _ _
  · split
    · exact s.answer_works _ _ _ _ _
    all_goals
      exact ((s.raise_works _ _ _).trans (Part.revert_works _ _)).trans (Part.answer_works _ _ _ _ _ _)

theorem Part.recover_works (src tag : Byte) (s : Part) : s.Works (s.recover src tag) :=
  (((s.endEventRecords_works.trans (Part.restartIdle_works _)).trans (Part.setSeq_works _ _)).trans
    (Part.answer_works _ _ _ _ _ _)).ite (s.answer_works _ _ _ _ _)

theorem Part.setFree_works (s : Part) (n : Nat) : s.Works (s.setFree n) := Part.Works.of_eq rfl

theorem Part.readStatus_works (src tag : Byte) (s : Part) : s.Works (s.readStatus src tag) :=
  (((s.setTable_works _).trans (Part.setSeq_works _ _)).trans (Part.answer_works _ _ _ _ _ _)).trans
    (Part.setFree_works _ _)

theorem Part.readReadings_works (src tag : Byte) (s : Part) : s.Works (s.readReadings src tag) :=
  s.answer_works _ _ _ _ _

theorem Part.readFaults_works (src tag start : Byte) (s : Part) : s.Works (s.readFaults src tag start) :=
  (s.answer_works _ _ _ _ _).trans (Part.setFree_works _ _)

theorem Part.clearFaults_works (src tag : Byte) (s : Part) : s.Works (s.clearFaults src tag) :=
  (Part.setFaults_works (fun h => (List.length_filter_le _ _).trans h) fun h => List.Pairwise.filter _ h).trans
    (Part.answer_works _ _ _ _ _ _)

theorem Part.unknownRequest_works (src : Byte) (payload : List Byte) (s : Part) :
    s.Works (s.unknownRequest src payload) := by
  unfold Part.unknownRequest
  split
  all_goals exact s.reply_works _

/-! ### Resets -/

theorem Part.endReset_works (s : Part) : s.Works s.endReset :=
  (s.raiseTrip_works.ite (Part.Works.refl s)).trans (Part.handPower_works _ _)

/-- The lists of a part right after a cold reset. -/
theorem Part.Keeps.of_cold {s t : Part} (he : t.store.entries = []) (hf : t.faults.records = [])
    (hp : t.field.queue = []) (hs : t.station.queue = []) (hr : t.station.replies = []) : s.Keeps t := by
  constructor <;> intro _
  all_goals simp [he, hf, hp, hs, hr, Part.StoreSound, FaultUnit.distinct]

theorem Part.coldReset_keeps (held : Bool) (s : Part) : s.Keeps (s.coldReset held) :=
  Part.Keeps.of_cold rfl rfl rfl rfl rfl

/-- R163: a warm reset keeps the fault list, some of its records ended. -/
theorem Part.warmReset_keeps (s : Part) : s.Keeps s.warmReset := by
  have hfaults : s.faults.distinct → s.faults.afterWarmReset.distinct := fun h =>
    FaultUnit.map_distinct h (fun r => by
      split
      · exact ⟨rfl, rfl, nofun⟩
      · exact ⟨rfl, rfl, id⟩) _
  have hlength : s.faults.records.length ≤ 16 → s.faults.afterWarmReset.records.length ≤ 16 := fun h => by
    simpa [FaultUnit.afterWarmReset] using h
  unfold Part.warmReset
  dsimp only
  refine Part.Keeps.trans ?_ ((Part.restartIdle_works _).trans (Part.setTable_works _ _)).keeps
  have hcold := Part.Keeps.of_cold (s := s) (t := Part.cold) rfl rfl rfl rfl rfl
  exact { hcold with records := hlength, distinct := hfaults }

theorem Part.resetRequest_keeps (src tag : Byte) (s : Part) : s.Keeps (s.resetRequest src tag) := by
  unfold Part.resetRequest
  split
  · exact (s.answer_works _ _ _ _ _).keeps
  · exact s.warmReset_keeps.trans ((Part.answer_works _ _ _ _ _ _).trans (Part.endReset_works _)).keeps

theorem Part.Keeps.ite {s t u : Part} {b : Prop} [Decidable b] (h : s.Keeps t) (h' : s.Keeps u) :
    s.Keeps (if b then t else u) := by
  split
  · exact h
  · exact h'

theorem Part.takeRequest_keeps (src : Byte) (payload : List Byte) (s : Part) :
    s.Keeps (s.takeRequest src payload) := by
  unfold Part.takeRequest
  split
  next tag code args =>
    exact (s.readBlock_works src tag _).keeps.ite <| (Part.writeBlock_works src tag _ _ s).keeps.ite <|
      (s.commit_works src tag).keeps.ite <| (s.request_works src tag _ _).keeps.ite <|
      (s.request_works src tag _ _).keeps.ite <| (s.abort_works src tag).keeps.ite <|
      (s.recover_works src tag).keeps.ite <| (s.readStatus_works src tag).keeps.ite <|
      (s.readReadings_works src tag).keeps.ite <| (s.readFaults_works src tag _).keeps.ite <|
      (s.clearFaults_works src tag).keeps.ite <| (s.resetRequest_keeps src tag).ite
      (s.unknownRequest_works src _).keeps
  next => exact (s.unknownRequest_works src _).keeps

end Sys2Proof.Machine
end

section
/-! PROOFS. The bounded lists through every step, and the Block Timer's expiry. -/

namespace Sys2Proof.Machine

/-! ### Received frames -/

theorem Part.takeSample_stays (f : Frame) (s : Part) : s.Stays (s.takeSample f) := by
  unfold Part.takeSample
  split
  next => exact (Part.Works.refl s).toStays
  next t _ =>
    have harrive := (s.arrival_stays t f.payload).trans (Part.settle_works _).toStays
    split
    · dsimp only
      split
      · exact harrive.trans (Part.queueStation_works _ _ _).toStays
      · exact harrive
    · exact (Part.Works.refl s).toStays

theorem Part.takeState_works (f : Frame) (s : Part) : s.Works (s.takeState f) :=
  ((Part.stateEntries_works _ _ s).ite (Part.Works.refl s)).trans (Part.queueStation_works _ _ _)

theorem Part.receiveField_stays (f : Frame) (s : Part) : s.Stays (s.receiveField f) := by
  refine (s.linkAlive_works .field).toStays.trans ?_
  have hnothing := (Part.Works.refl (s.linkAlive .field)).toStays
  unfold Part.receiveField Part.disposeField
  split
  · exact hnothing
  · split
    · split
      · exact Part.takeSample_stays f _
      · exact ((Part.takeState_works f _).ite (Part.Works.refl _)).toStays
    · exact ((Part.queueStation_works _ _ _).ite (Part.Works.refl _)).toStays

theorem Part.recordCommand_works (s : Part) (e : Elem) (o : Origin) (x : Order) (b : Bool) :
    s.Works (s.recordCommand e o x b) := s.modifyElem_works _ _

theorem Part.carryOut_works (s : Part) (e : Elem) (f : Frame) (d : GuardDecision) : s.Works (s.carryOut e f d) := by
  unfold Part.carryOut
  split
  · exact s.refuse_works f _
  next order =>
    have hrecord := s.recordCommand_works e .station order false
    split
    next h => exact hrecord.trans (Part.placeField_works (s := s.recordCommand e .station order false) h f (some e))
    next => exact s.countDiscard_works .station

theorem Part.guardField_works (f : Frame) (s : Part) : s.Works (s.guardField f) := by
  unfold Part.guardField
  split
  · exact s.refuse_works f _
  · split
    · exact s.queueField_works f
    · split
      · exact s.carryOut_works _ f _
      · exact s.carryOut_works _ f _
      · exact s.queueField_works f

theorem Part.takePower_works (f : Frame) (s : Part) : s.Works (s.takePower f) := by
  have hlevel : ∀ l, s.Works (s.setLevel l) := fun l => (s.setRamp_works _).trans (Part.setStation_works id id)
  exact (s.refuse_works f _).ite <| (s.refuse_works f _).ite <| (s.refuse_works f _).ite <|
    ((hlevel _).trans (Part.queueStation_works _ _ _)).ite (s.countDiscard_works .station)

theorem Part.takeTxState_works (f : Frame) (s : Part) : s.Works (s.takeTxState f) :=
  ((s.setRamp_works _).trans (Part.settleRamp_works Part.slotTaken_works _)).ite (Part.Works.refl s)

theorem Part.setClock_keeps (s : Part) (x : Clock) : s.Keeps (s.setClock x) := Part.Keeps.of_lists rfl rfl rfl rfl

theorem Part.takeTime_keeps (s : Part) (payload : List Byte) : s.Keeps (s.takeTime payload) :=
  ((s.setClock_keeps _).trans (Part.evaluate_works _).keeps).ite (s.raise_works _ _ _).keeps

theorem Part.receiveStation_keeps (f : Frame) (s : Part) : s.Keeps (s.receiveStation f) := by
  refine ((s.linkAlive_works .station).trans (Part.takeTxState_works f _)).keeps.trans ?_
  unfold Part.receiveStation Part.disposeStation
  generalize (s.linkAlive .station).takeTxState f = t
  have hnothing := Part.Keeps.refl t
  exact ((Part.takeRequest_keeps _ _ t).ite ((t.takeTime_keeps _).ite hnothing)).ite <|
    (Part.guardField_works f t).keeps.ite <| (Part.takePower_works f t).keeps.ite <|
    (t.queueStation_works _ f).keeps.ite hnothing

/-! ### Expiries and lines -/

theorem Part.atDeadline_keeps (s : Part) (d : Uptime) : s.Keeps (s.atDeadline d) :=
  (Part.Keeps.refl s).ite (Part.Keeps.of_lists rfl rfl rfl rfl)

theorem Part.expire_keeps (d : Option Uptime) {op : Uptime → Part → Part} (h : ∀ d (s : Part), s.Keeps (op d s))
    (s : Part) : s.Keeps (s.expire d op) := by
  unfold Part.expire
  split
  · exact Part.Keeps.refl s
  · exact (s.atDeadline_keeps _).trans (h _ _)

theorem Part.blockExpires_keeps (s : Part) : s.Keeps s.blockExpires :=
  Part.expire_keeps _ (fun _ s => (s.setTimer_keeps _).trans (Part.startBlock_keeps _)) s

theorem Part.licenceDone_keeps (s : Part) : s.Keeps s.licenceDone :=
  Part.expire_keeps _ (fun _ s => (s.setTables_works _).keeps) s

theorem Part.silenceExpires_keeps (e : Elem) (s : Part) : s.Keeps (s.silenceExpires e) :=
  Part.expire_keeps _ (fun _ s => (s.fallSilent_works e).keeps) s

theorem Part.commandDue_keeps (e : Elem) (s : Part) : s.Keeps (s.commandDue e) := by
  unfold Part.commandDue
  split
  · exact Part.Keeps.refl s
  · exact (s.atDeadline_keeps _).trans (Part.commandExpires_works _ _ _).keeps

theorem Part.dwellExpires_keeps (s : Part) : s.Keeps s.dwellExpires :=
  Part.expire_keeps _ (fun _ s => s.dwellOver_works.keeps) s

theorem Part.phaseExpires_keeps (s : Part) : s.Keeps s.phaseExpires :=
  Part.expire_keeps _ (fun _ s => ((s.setPhaseDeadline_works none).trans (Part.raise_works _ _ _ _)).keeps) s

theorem Part.settleExpires_keeps (s : Part) : s.Keeps s.settleExpires :=
  Part.expire_keeps _ (fun _ s => ((s.modifyChange_works _).trans (Part.raise_works _ _ _ _)).keeps) s

theorem Part.sendDue_keeps (s : Part) : s.Keeps s.sendDue :=
  Part.expire_keeps _ (fun _ s => (s.sendRamp_works.trans (Part.settleRamp_works Part.slotTaken_works _)).keeps) s

theorem Part.rampExpires_keeps (s : Part) : s.Keeps s.rampExpires :=
  Part.expire_keeps _ (fun _ s => ((s.setRamp_works _).thenIf (Part.raise_works _ _ _ _)).keeps) s

theorem Part.linkExpires_keeps (p : Port) (s : Part) : s.Keeps (s.linkExpires p) :=
  Part.expire_keeps _ (fun _ s => (s.linkLost_works p).keeps) s

theorem Part.advanceClock_keeps (s : Part) (c : Calendar) (d : Uptime) : s.Keeps (s.advanceClock c d) := by
  unfold Part.advanceClock
  dsimp only
  split
  · exact (s.setClock_keeps _).trans ((Part.raise_works _ _ _ _).trans (Part.evaluate_works _)).keeps
  · exact (s.setClock_keeps _).trans ((Part.Works.refl _).thenUnless (Part.evaluate_works _)).keeps

theorem Part.secondExpires_keeps (s : Part) : s.Keeps s.secondExpires := by
  unfold Part.secondExpires
  split
  · exact Part.Keeps.refl s
  · exact Part.expire_keeps _ (fun d s => s.advanceClock_keeps _ d) s

/-- R172: the choice that follows a transmission. -/
theorem Part.endTransmission_keeps (s : Part) (p : Port) : s.Keeps (s.endTransmission p) := by
  unfold Part.endTransmission
  cases p with
  | field =>
    dsimp only
    split
    · have hend : s.Keeps (s.setField { s.field with sending := none }) := ⟨id, id, id, id, id, id, id⟩
      exact hend.trans (Part.fieldChoice_works rfl).keeps
    · exact Part.Keeps.refl s
  | station =>
    dsimp only
    split
    · have hend : s.Works (s.setStation { s.station with sending := none }) := Part.setStation_works id id
      exact (hend.trans (Part.stationChoice_works _)).keeps
    · exact Part.Keeps.refl s

theorem Part.setLines_keeps (s : Part) (x : Lines) : s.Keeps (s.setLines x) := Part.Keeps.of_lists rfl rfl rfl rfl

theorem Part.endTrip_works (s : Part) : s.Works s.endTrip :=
  (s.endCondition_works _ _).thenUnless (Part.handPower_works _ _)

theorem Part.panelGo_keeps (sel : Pat) (s : Part) : s.Keeps (s.panelGo sel) :=
  (s.setLines_keeps _).trans ((Part.raiseRequest_works _ _ _).ite (Part.Works.refl _)).keeps

theorem Part.panelStop_keeps (s : Part) : s.Keeps s.panelStop :=
  ((s.raiseRequest_works _ _).ite (Part.Works.refl s)).keeps

/-! ### Every command -/

theorem Part.event_keeps {op : Part → Part} (h : ∀ s : Part, s.Keeps (op s)) (s : Part) : s.Keeps (s.event op) :=
  (Part.Keeps.refl s).ite
    (((s.setRaised_works []).keeps.trans (h _)).trans (Part.settle_drivePins_works _).keeps)

theorem Part.evaluated_keeps (s : Part) : s.Keeps s.evaluated :=
  (Part.event_keeps (fun s => s.scheduleDue_works.keeps) s).ite (Part.Keeps.refl s)

theorem Part.lineEvent_keeps (level : Lines → Lines) {op : Part → Part} (h : ∀ s : Part, s.Keeps (op s)) (s : Part) :
    s.Keeps (s.lineEvent level op) :=
  (s.setLines_keeps _).ite (Part.event_keeps (fun s => (s.setLines_keeps _).trans (h _)) s)

theorem Part.coldResetEvent_keeps (held : Bool) (s : Part) : s.Keeps (s.coldResetEvent held) :=
  ((s.coldReset_keeps true).trans (Part.Keeps.of_lists rfl rfl rfl rfl)).ite
    ((s.coldReset_keeps false).trans ((Part.endReset_works _).trans (Part.settle_drivePins_works _)).keeps)

theorem Part.resetReleased_keeps (levels : Lines) (s : Part) : s.Keeps (s.resetReleased levels) := by
  have hlines : s.Keeps ((s.setHeld false).setLines levels) := Part.Keeps.of_lists rfl rfl rfl rfl
  exact (hlines.trans ((Part.endReset_works _).trans (Part.settle_drivePins_works _)).keeps).ite (Part.Keeps.refl s)

theorem State.runNow_keeps {s t : State} {op : Part → Part} (h : ∀ p : Part, p.Keeps (op p))
    (ht : s.runNow op = .next t) : s.part.Keeps t.part := by
  obtain rfl := Host.Outcome.next.inj ht
  exact h s.part

theorem State.run_keeps {s t : State} {op : Part → Part} (h : ∀ p : Part, p.Keeps (op p))
    (ht : s.run op = .next t) : s.part.Keeps t.part :=
  State.runNow_keeps (fun p => p.evaluated_keeps.trans (h _)) ht

theorem State.run_event_keeps {s t : State} {op : Part → Part} (h : ∀ p : Part, p.Keeps (op p))
    (ht : s.run (Part.event op) = .next t) : s.part.Keeps t.part :=
  State.run_keeps (Part.event_keeps h) ht

/-- R164: a request that comes in a valid frame. -/
theorem State.run_heard_keeps {s t : State} {op : Part → Part} (h : ∀ p : Part, p.Keeps (op p))
    (ht : s.run (Part.event fun p => op (p.linkAlive .station)) = .next t) : s.part.Keeps t.part :=
  State.run_event_keeps (fun p => (p.linkAlive_works .station).keeps.trans (h _)) ht

theorem Part.setKey_keeps (s : Part) (key : Bool) : s.Keeps (s.setKey key) := s.setLines_keeps _

theorem Part.receiveBytes_keeps (p : Port) (bytes : List Byte) (s : Part) : s.Keeps (s.receiveBytes p bytes) := by
  unfold Part.receiveBytes
  split
  · exact Part.Keeps.refl s
  · exact (s.receiveField_stays _).keeps
  · exact s.receiveStation_keeps _

theorem exec_keeps_lists {c : Instr} {s t : State} (ht : exec c s = .next t) : s.part.Keeps t.part := by
  cases c with
  | coldReset b => exact State.runNow_keeps (Part.coldResetEvent_keeps b) ht
  | resetNRelease l => exact State.run_keeps (Part.resetReleased_keeps l) ht
  | scheduleEvaluation => exact State.runNow_keeps (Part.event_keeps fun p => p.scheduleDue_works.keeps) ht
  | blockTimerExpiry => exact State.run_event_keeps Part.blockExpires_keeps ht
  | sampleArrival src payload => exact State.run_event_keeps (fun p => (p.receiveField_stays _).keeps) ht
  | stateFrame src payload => exact State.run_event_keeps (fun p => (p.receiveField_stays _).keeps) ht
  | fieldFrameRelay f => exact State.run_event_keeps (fun p => (p.receiveField_stays f).keeps) ht
  | fieldFrameDiscard f => exact State.run_event_keeps (fun p => (p.receiveField_stays f).keeps) ht
  | frameEnvelopeFail port bytes => exact State.run_event_keeps (Part.receiveBytes_keeps port bytes) ht
  | readBlock src tag n => exact State.run_heard_keeps (fun p => (p.readBlock_works src tag n).keeps) ht
  | writeBlock src tag n key data =>
    exact State.run_heard_keeps (op := fun p => (p.setKey key).writeBlock src tag n data)
      (fun p => (p.setKey_keeps key).trans (Part.writeBlock_works src tag n data _).keeps) ht
  | licenceWriteComplete => exact State.run_event_keeps Part.licenceDone_keeps ht
  | commit src tag => exact State.run_heard_keeps (fun p => (p.commit_works src tag).keeps) ht
  | change src tag p => exact State.run_heard_keeps (fun p => (p.request_works src tag _ _).keeps) ht
  | stop src tag => exact State.run_heard_keeps (fun p => (p.request_works src tag _ _).keeps) ht
  | abort src tag => exact State.run_heard_keeps (fun p => (p.abort_works src tag).keeps) ht
  | recover src tag => exact State.run_heard_keeps (fun p => (p.recover_works src tag).keeps) ht
  | readStatus src tag key =>
    exact State.run_heard_keeps (op := fun p => (p.setKey key).readStatus src tag)
      (fun p => (p.setKey_keeps key).trans (Part.readStatus_works src tag _).keeps) ht
  | readReadings src tag => exact State.run_heard_keeps (fun p => (p.readReadings_works src tag).keeps) ht
  | readFaults src tag start => exact State.run_heard_keeps (fun p => (p.readFaults_works src tag start).keeps) ht
  | clearFaults src tag => exact State.run_heard_keeps (fun p => (p.clearFaults_works src tag).keeps) ht
  | reset src tag => exact State.run_heard_keeps (Part.resetRequest_keeps src tag) ht
  | mgmtUnknown src payload => exact State.run_heard_keeps (Part.takeRequest_keeps src payload) ht
  | time src payload => exact State.run_event_keeps (Part.receiveStation_keeps _) ht
  | txState dst payload => exact State.run_event_keeps (Part.receiveStation_keeps _) ht
  | stationElemCmdContactor dst src payload => exact State.run_event_keeps (Part.receiveStation_keeps _) ht
  | stationElemCmdActuator dst src payload => exact State.run_event_keeps (Part.receiveStation_keeps _) ht
  | broadcastElemCmd src payload => exact State.run_event_keeps (Part.receiveStation_keeps _) ht
  | fieldBoundForward f => exact State.run_event_keeps (Part.receiveStation_keeps f) ht
  | stationPower src payload => exact State.run_event_keeps (Part.receiveStation_keeps _) ht
  | stationFrameRelay f => exact State.run_event_keeps (Part.receiveStation_keeps f) ht
  | stationFrameDiscard f => exact State.run_event_keeps (Part.receiveStation_keeps f) ht
  | txTripAssert =>
    exact State.run_keeps (fun p => (Part.Keeps.refl p).ite
      (Part.lineEvent_keeps _ (fun q => q.raiseTrip_works.keeps) p)) ht
  | txTripRelease =>
    exact State.run_keeps (fun p => (Part.lineEvent_keeps _ (fun q => q.endTrip_works.keeps) p).ite
      (Part.Keeps.refl p)) ht
  | localAssert => exact State.run_keeps (Part.lineEvent_keeps _ Part.Keeps.refl) ht
  | localRelease =>
    exact State.run_keeps (fun p => (Part.lineEvent_keeps _ (fun q => q.evaluateRelease_works.keeps) p).ite
      (Part.Keeps.refl p)) ht
  | panelGo sel => exact State.run_event_keeps (Part.panelGo_keeps sel) ht
  | panelStop => exact State.run_event_keeps Part.panelStop_keeps ht
  | silenceDeadline e => exact State.run_event_keeps (Part.silenceExpires_keeps e) ht
  | commandDeadline e => exact State.run_event_keeps (Part.commandDue_keeps e) ht
  | dwellEnd => exact State.run_event_keeps Part.dwellExpires_keeps ht
  | phaseDeadline => exact State.run_event_keeps Part.phaseExpires_keeps ht
  | settleDeadline => exact State.run_event_keeps Part.settleExpires_keeps ht
  | rampSend => exact State.run_event_keeps Part.sendDue_keeps ht
  | rampDeadline => exact State.run_event_keeps Part.rampExpires_keeps ht
  | linkDeadline port => exact State.run_event_keeps (Part.linkExpires_keeps port) ht
  | clockSecond => exact State.run_event_keeps Part.secondExpires_keeps ht
  | transmissionEnd port => exact State.run_event_keeps (fun p => p.endTransmission_keeps port) ht

/-- An empty queue lets time pass, which no list sees. -/
theorem State.idle_keeps (s : State) : s.part.Keeps s.idle.part := by
  unfold State.idle
  split
  · exact Part.Keeps.refl _
  · split
    · exact Part.Keeps.of_lists rfl rfl rfl rfl
    · exact Part.Keeps.refl _
    · exact (s.part.setFree_works _).keeps

theorem step_keeps_lists {s t : State} (ht : step s = .next t) : s.part.Keeps t.part := by
  unfold step at ht
  split at ht
  · obtain rfl := Host.Outcome.next.inj ht
    exact s.idle_keeps
  next i rest _ => exact exec_keeps_lists (s := { s with pending := rest }) ht

/-- Settles O57: each list has few ways to grow, and each of them asks for a place first (Part.Keeps). -/
theorem everyStepKeepsTheBoundedLists : Obligations.EveryStepKeepsTheBoundedLists :=
  ⟨fun _ _ h ht => (step_keeps_lists ht).bounded h, fun _ _ h ht => (step_keeps_lists ht).distinct h,
    fun _ _ h ht => (step_keeps_lists ht).sound h⟩

end Sys2Proof.Machine
end

section
/-! PROOFS. An expiry of the Block Timer. -/

namespace Sys2Proof.Machine

/-- R20, R21: the part at an expiry of the Block Timer, its BLOCK_START frame handed over. -/
def Part.blockCalled (s : Part) : Part :=
  ((s.atExpiry s.timer.deadline).setTimer
    { index := s.timer.index + 1, deadline := s.timer.deadline + 2 }).handBlockStart (s.timer.index + 1)

theorem Part.atExpiry_timer (s : Part) (d : Uptime) : (s.atExpiry d).timer = s.timer := by
  rw [Part.atExpiry_eq]
  rfl

/-- R20 to R24: an expiry hands BLOCK_START over and opens the block behind it. -/
theorem Part.blockExpires_opens (s : Part) : s.blockExpires = s.blockCalled.openBlock (s.timer.index + 1) := by
  rw [Part.blockExpires_eq, Part.startBlock_eq, Part.atDeadline_eq, Part.blockCalled, Part.setTimer_timer,
    Part.atExpiry_timer]
  rfl

theorem exec_blockTimerExpiry {s : State} (h : s.part.taking) : exec .blockTimerExpiry s = .next
    { s with part := (s.part.setRaised []).blockExpires.settle.drivePins } := State.run_event h

/-- R21, R172: a BLOCK_START handed to a port that does not transmit is sent at once. -/
theorem Part.handBlockStart_of_idle {s : Part} (h : s.field.sending = none) (i : BitVec 16) :
    s.handBlockStart i = s.setField { s.field with blockStart := none, sending := some (blockStartFrame i) } := by
  rw [Part.handBlockStart, Part.fieldKick]
  simp [Part.setField, Part.fieldChoice, h]

/-- R21, R173: a BLOCK_START handed to a port that transmits takes the place of one that waits. -/
theorem Part.handBlockStart_of_busy {s : Part} {g : Frame} (h : s.field.sending = some g) (i : BitVec 16) :
    s.handBlockStart i = s.setField { s.field with blockStart := some i } := by
  rw [Part.handBlockStart, Part.fieldKick]
  simp [Part.setField, h]

/-- R21, R172: what a BLOCK_START frame that is handed over changes. -/
theorem Part.handBlockStart_eq (s : Part) (i : BitVec 16) : s.handBlockStart i = s.setField
    (match s.field.sending with
      | none => { s.field with blockStart := none, sending := some (blockStartFrame i) }
      | some _ => { s.field with blockStart := some i }) := by
  cases h : s.field.sending with
  | none => exact Part.handBlockStart_of_idle h i
  | some g => exact Part.handBlockStart_of_busy h i

theorem Part.blockCalled_eq (s : Part) : s.blockCalled =
    (((s.atExpiry s.timer.deadline).setTimer
      { index := s.timer.index + 1, deadline := s.timer.deadline + 2 }).setField
        (match s.field.sending with
          | none => { s.field with blockStart := none, sending := some (blockStartFrame (s.timer.index + 1)) }
          | some _ => { s.field with blockStart := some (s.timer.index + 1) })) := by
  rw [Part.blockCalled, Part.handBlockStart_eq, Part.atExpiry_eq]
  rfl

theorem Part.blockCalled_uptime (s : Part) : s.blockCalled.uptime = (s.atExpiry s.timer.deadline).uptime := by
  rw [Part.blockCalled_eq]
  rfl

theorem Part.blockCalled_rest (s : Part) :
    s.blockCalled.timer = { index := s.timer.index + 1, deadline := s.timer.deadline + 2 } ∧
      s.blockCalled.store = s.store ∧ s.blockCalled.lines = s.lines ∧ s.blockCalled.clock = s.clock ∧
      s.blockCalled.held = s.held := by
  rw [Part.blockCalled_eq, Part.atExpiry_eq]
  exact ⟨rfl, rfl, rfl, rfl, rfl⟩

theorem Part.blockCalled_of_idle {s : Part} (h : s.field.sending = none) :
    s.blockCalled.field.sending = some (blockStartFrame (s.timer.index + 1)) := by
  rw [Part.blockCalled_eq, h]
  rfl

theorem Part.blockCalled_of_busy {s : Part} {g : Frame} (h : s.field.sending = some g) :
    s.blockCalled.field = { s.field with blockStart := some (s.timer.index + 1) } := by
  rw [Part.blockCalled_eq, h]
  rfl

/-- R12: with no tower installed. -/
theorem Bank.installed_of_none {b : Bank} (h : b.towerCount = 0) (t : Tower) : b.installed t = false := by
  simp [Bank.installed, h]

theorem mapAll_eq_self {α : Type} {n : Nat} {v : Vector α n} {f : Fin n → α → α} (h : ∀ i a, f i a = a) :
    mapAll v f = v := by
  ext i hi
  simp [mapAll, h]

/-- R20: with no tower installed, a block start behind its BLOCK_START does no more than open its entry. -/
theorem Part.openBlock_of_no_tower {s : Part} {i : BitVec 16} (hnone : s.bank.towerCount = 0)
    (hroom : s.store.entries.length < 8) (hi : ∀ e ∈ s.store.entries, e.index ≠ i) :
    s.openBlock i = s.openEntry i := by
  have hinstalled : ∀ t, (s.openEntry i).bank.installed t = false := Bank.installed_of_none hnone
  have hage : (s.openEntry i).ageReadings = s.openEntry i := by
    have hstale : towers.filter (s.openEntry i).goesStale = [] := by
      simp [Part.goesStale, hinstalled]
    rw [Part.ageReadings, hstale, mapAll_eq_self fun t r => by rw [hinstalled]; rfl]
    rfl
  have hcover : (s.openEntry i).coverStale = s.openEntry i := by
    rw [Part.coverStale, List.filter_eq_nil_iff.mpr fun t _ => by rw [hinstalled]; exact Bool.false_ne_true]
    rfl
  have hround : (s.openEntry i).roundComplete = false := by
    have h : (s.openEntry i).bank.towerCount = 0 := hnone
    simp [Part.roundComplete, h]
  rw [Part.openBlock, Part.makeRoom_of_room hi hroom, hage, hcover, Part.testRound, hround]
  rfl

/-- R20 to R24: what an expiry of the Block Timer leaves of the part. -/
theorem Part.blockExpires_stays (s : Part) : s.blockCalled.Stays s.blockExpires.settle.drivePins := by
  rw [Part.blockExpires_opens]
  exact (Part.openBlock_stays _ _).trans (Part.settle_drivePins_works _).toStays

theorem Part.blockExpires_indices (s : Part) : s.blockExpires.settle.drivePins.store.entries.map Entry.index =
    (roomFor s.store.entries (s.timer.index + 1)).map Entry.index ++ [s.timer.index + 1] := by
  obtain ⟨_, hstore, _⟩ := s.blockCalled_rest
  rw [(Part.settle_drivePins_works _).indices, Part.blockExpires_opens, Part.openBlock_indices, hstore]

/-- R20, R21, R23: an expiry with no tower installed, at a Field Port that transmits. -/
theorem Part.blockExpires_of_no_tower {s : Part} {g : Frame} (hnone : s.bank.towerCount = 0)
    (hroom : s.store.entries.length < 8) (hi : ∀ e ∈ s.store.entries, e.index ≠ s.timer.index + 1)
    (hg : s.field.sending = some g) :
    s.blockExpires = { s.atExpiry s.timer.deadline with
      timer := { index := s.timer.index + 1, deadline := s.timer.deadline + 2 }
      field := { s.field with blockStart := some (s.timer.index + 1) }
      store :=
        { s.store with
          entries := s.store.entries ++
            [{ index := s.timer.index + 1, refTower := s.corr.config.refTower, epoch := true, refBlock := none,
               held := [], combined := [] }] } } := by
  have hcalled := s.blockCalled_eq
  rw [hg, Part.atExpiry_eq] at hcalled
  rw [Part.blockExpires_opens, Part.openBlock_of_no_tower (by rw [hcalled]; exact hnone) (by rw [hcalled]; exact hroom)
    (by rw [hcalled]; exact hi), hcalled, Part.atExpiry_eq]
  rfl

/-- Settles O12: BLOCK_START is handed over first, and what follows neither passes time nor touches it. -/
theorem blockTimerExpiryStartsOneBlock : Obligations.BlockTimerExpiryStartsOneBlock := by
  refine ⟨fun s h => ?_, fun s h hnone hroom hbusy => ?_⟩
  · have hafter := (s.part.setRaised []).blockExpires_stays
    obtain ⟨htimer, _, hlines, hclock, hheld⟩ := (s.part.setRaised []).blockCalled_rest
    have huptime := (s.part.setRaised []).blockCalled_uptime
    rw [Part.atExpiry_eq] at huptime
    refine ⟨_, exec_blockTimerExpiry h, rfl, hafter.timer.trans htimer, ?_, Part.blockExpires_indices _,
      fun hidle => (hafter.sending _ (Part.blockCalled_of_idle hidle)).1, fun g hg => ?_, hafter.lines.trans hlines,
      hafter.clock.trans hclock, (hafter.held.trans hheld).trans h.1⟩
    · rw [Part.atExpiry_eq]
      exact hafter.uptime.trans huptime
    · have hfield := Part.blockCalled_of_busy (s := s.part.setRaised []) hg
      obtain ⟨hsend, hwait⟩ := hafter.sending g (by rw [hfield]; exact hg)
      exact ⟨hsend, hwait.trans (by rw [hfield]; rfl)⟩
  · intro i hi
    obtain ⟨g, hg⟩ := Option.ne_none_iff_exists'.mp hbusy
    have hexpire := Part.blockExpires_of_no_tower (s := s.part.setRaised []) hnone hroom hi hg
    refine State.run_event_of_none h (hexpire.trans ?_)
    rw [Part.atExpiry_eq, Part.atExpiry_eq]
    rfl

end Sys2Proof.Machine
end

section
/-! PROOFS. SAMPLE frames that pair nothing, and SAMPLE frames that are held. -/

namespace Sys2Proof.Machine

/-! ### The disposal of a SAMPLE -/

/-- R188: a SAMPLE frame for node 0. -/
def sampleFrame (src : Byte) (payload : List Byte) : Frame := { dst := 0, src := src, kind := 2, payload := payload }

theorem Part.receiveField_sample (src : Byte) (payload : List Byte) (s : Part) :
    s.receiveField (sampleFrame src payload) = (s.linkAlive .field).takeSample (sampleFrame src payload) := rfl

theorem exec_sampleArrival {src : Byte} {payload : List Byte} {s : State} (h : s.part.taking) :
    exec (.sampleArrival src payload) s = .next { s with part :=
      (((s.part.setRaised []).linkAlive .field).takeSample (sampleFrame src payload)).settle.drivePins } :=
  State.run_event h

/-- R26: a source node that is no installed tower's TSU node. -/
theorem Bank.towerOfNode_eq_none {b : Bank} {node : Byte}
    (h : ∀ k : Tower, b.installed k = true → b.tsuNode k ≠ node.toNat) :
    b.towerOfNode node = none := by
  rw [Bank.towerOfNode, List.find?_eq_none]
  intro k hk
  simpa using h k (List.mem_filter.mp hk).2

theorem Bank.installed_of_towerOfNode {b : Bank} {node : Byte} {k : Tower} (h : b.towerOfNode node = some k) :
    b.installed k = true :=
  (List.mem_filter.mp (List.mem_of_find?_eq_some h)).2

/-- R26, R189: a SAMPLE of no installed tower, or of a wrong length. -/
theorem Part.takeSample_ignored {s : Part} {f : Frame}
    (h : s.bank.towerOfNode f.src = none ∨ f.payload.length ≠ 131) :
    s.takeSample f = s := by
  unfold Part.takeSample
  split
  · rfl
  next k hk =>
    obtain hnone | hlength := h
    · exact absurd (hnone.symm.trans hk) (by simp)
    · exact if_neg hlength

/-- R26, R167: a SAMPLE of an installed tower and of the right length. -/
theorem Part.takeSample_eq {s : Part} {f : Frame} {k : Tower} (hk : s.bank.towerOfNode f.src = some k)
    (hlength : f.payload.length = 131) :
    s.takeSample f =
      if s.bank.forwardSamples k then (s.arrival k f.payload).settle.queueStation .field (copyFrame f)
      else (s.arrival k f.payload).settle := by
  unfold Part.takeSample
  rw [hk]
  exact if_pos hlength

theorem Part.setRaised_relayed (s : Part) (l : List Raised) (o : Port) (f : Frame) :
    (s.setRaised l).relayed o f = (s.relayed o f).setRaised l := by
  unfold Part.relayed
  rw [Part.setRaised_station]
  split
  · rfl
  · cases o <;> rfl

/-- R26, R167: a SAMPLE at a Field Port that is UP, whose arrival settles in p, and its copy. -/
theorem exec_sample_settled {src : Byte} {payload : List Byte} {k : Tower} {s : State} {p : Part} (h : s.part.taking)
    (hup : s.part.field.link.up = true) (hlength : payload.length = 131) (hk : s.part.bank.towerOfNode src = some k)
    (hsettle : ((s.part.fieldHeard.setRaised []).arrival k payload).settle = p.setRaised [])
    (hbusy : s.part.bank.forwardSamples k = true → p.stationBusy) :
    exec (.sampleArrival src payload) s = .next { s with part :=
      (if s.part.bank.forwardSamples k = true then
        p.relayed .field { dst := 30, src := src, kind := 2, payload := payload } else p).closed } := by
  refine State.run_event_of_none h ?_
  refine (Part.receiveField_sample src payload _).trans ?_
  rw [Part.linkAlive_field (s := s.part.setRaised []) hup]
  refine (Part.takeSample_eq (s := s.part.fieldHeard.setRaised []) (f := sampleFrame src payload) hk hlength).trans ?_
  have hflag : (s.part.fieldHeard.setRaised []).bank.forwardSamples k = s.part.bank.forwardSamples k := rfl
  rw [hflag]
  refine (congrArg (fun q : Part => if s.part.bank.forwardSamples k = true then
    q.queueStation .field (copyFrame (sampleFrame src payload)) else q) hsettle).trans ?_
  split
  next hforward =>
    rw [Part.queueStation_eq (s := p.setRaised []) (hbusy hforward)]
    exact p.setRaised_relayed _ _ _
  next => rfl

/-! ### Arrivals that pair nothing -/

/-- R27: an arrival that finds no entry. -/
theorem Part.arrival_stray {s : Part} {k : Tower} {payload : List Byte}
    (h : ∀ e ∈ s.store.entries, e.index ≠ indexOf payload) :
    s.arrival k payload = s.strayArrival k (indexOf payload) := by
  rw [Part.arrival, Part.entryOf_eq_none.mpr h]

/-- R27: a late arrival is counted. -/
theorem Part.strayArrival_late {s : Part} {b : BitVec 16} (h : (s.timer.index - b).toNat ≤ 32767) (k : Tower) :
    s.strayArrival k b = s.setTable { s.table with
      readings := s.table.readings.set k.val { s.table.readings[k] with late := upTo 65535 s.table.readings[k].late } } :=
  if_pos (Nat.lt_succ_of_le h)

/-- R27: a future arrival is out of sequence. -/
theorem Part.strayArrival_future {s : Part} {b : BitVec 16} (h : 32768 ≤ (s.timer.index - b).toNat) (k : Tower) :
    s.strayArrival k b = s.raise .sampleSequence (.tower k) .d :=
  if_neg (Nat.not_lt.mpr h)

/-- R28: a tower's second block of an entry. -/
theorem Part.arrival_duplicate {s : Part} {k : Tower} {payload : List Byte} {e : Entry}
    (he : s.entryOf (indexOf payload) = some e) (h : e.has k = true) : s.arrival k payload = s := by
  rw [Part.arrival, he]
  exact if_pos h

/-- The raise of an event that owes nothing yet, where it is of class D. -/
theorem Part.raise_settle_of_d {s : Part} {kind : FaultKind} {o : FaultObject} (h : s.room kind o) :
    ((s.setRaised []).raise kind o .d).settle = (s.recorded kind o .d).setRaised [] := by
  rw [Part.raise_eq (s := s.setRaised []) h, Part.settle_of_d]
  · rfl
  · intro r hr
    rw [List.mem_singleton.mp hr]

/-- Settles O14: each of these arrivals settles at once, and the copy follows. -/
theorem sampleThatPairsNothing : Obligations.SampleThatPairsNothing := by
  refine ⟨fun src payload s h hup hignored => ?_, fun src payload k s h hup hlength hk hbusy => ?_⟩
  · refine State.run_event_of_none h ?_
    refine (Part.receiveField_sample src payload _).trans ?_
    rw [Part.linkAlive_field (s := s.part.setRaised []) hup]
    exact Part.takeSample_ignored (hignored.imp Bank.towerOfNode_eq_none id)
  · intro b done r
    refine ⟨fun hstray => ⟨fun hlate => ?_, fun hfuture hroom => ?_⟩, fun e he hhas => ?_⟩
    · refine exec_sample_settled h hup hlength hk ?_ fun _ => hbusy
      rw [Part.arrival_stray (s := s.part.fieldHeard.setRaised []) hstray,
        Part.strayArrival_late (s := s.part.fieldHeard.setRaised []) (b := indexOf payload) hlate]
      exact Part.settle_of_none rfl
    · refine exec_sample_settled h hup hlength hk ?_ fun _ => hbusy
      rw [Part.arrival_stray (s := s.part.fieldHeard.setRaised []) hstray,
        Part.strayArrival_future (s := s.part.fieldHeard.setRaised []) (b := indexOf payload) hfuture]
      exact Part.raise_settle_of_d (s := s.part.fieldHeard) hroom
    · refine exec_sample_settled h hup hlength hk ?_ fun _ => hbusy
      rw [Part.arrival_duplicate (s := s.part.fieldHeard.setRaised []) he (Entry.has_iff.mpr hhas)]
      exact Part.settle_of_none rfl

/-! ### A block that is held -/

/-- R36, R80, R111: with no change in flight, QUIET's changes move nothing but the RF_IN_SWITCH watch. -/
theorem Part.evaluateQuiet_of_no_change {s : Part} (h : s.change? = none) :
    s.evaluateQuiet = s.setTable { s.table with quiet := s.quietNow } ∨
      s.evaluateQuiet = (s.setTable { s.table with quiet := s.quietNow }).raiseRfInSwitch := by
  have hphase : (s.setTable { s.table with quiet := s.quietNow }).phase? ≠ some .switching := by
    have hnone : (s.setTable { s.table with quiet := s.quietNow }).phase? = none := congrArg (Option.map Change.phase) h
    rw [hnone]
    nofun
  have hgained : (s.setTable { s.table with quiet := s.quietNow }).quietGained =
      s.setTable { s.table with quiet := s.quietNow } := by
    unfold Part.quietGained
    rw [show (s.setTable { s.table with quiet := s.quietNow }).change? = none from h]
  unfold Part.evaluateQuiet Part.quietLost
  dsimp only
  rw [hgained, if_neg hphase]
  split
  · split
    · exact .inl rfl
    · exact .inr rfl
  · exact .inl (ite_self _)

/-- R36, R111: with no change and no contactor command in flight. -/
theorem Part.evaluateQuiet_still {s : Part} (h : s.change? = none) (hcontacts : s.contactsInFlight = []) :
    s.evaluateQuiet = s.setTable { s.table with quiet := s.quietNow } := by
  obtain h | h := Part.evaluateQuiet_of_no_change h
  · exact h
  · rw [h, Part.raiseRfInSwitch,
      show (s.setTable { s.table with quiet := s.quietNow }).contactsInFlight = [] from hcontacts]
    rfl

theorem Part.change?_of_mode {s : Part} (h : s.seq.mode = .stopped ∨ s.seq.mode = .halted) : s.change? = none := by
  unfold Part.change?
  obtain h | h := h <;> rw [h]

/-- The part with an entry of its Pairing Store rewritten. -/
def Part.withEntry (s : Part) (e e' : Entry) : Part :=
  { s with store := { s.store with entries := s.store.entries.map fun y => if y = e then e' else y } }

/-- R22: the entry of an index rewritten, where it is the only one. -/
theorem Part.modifyEntry_eq {s : Part} (hs : s.store.entries.Pairwise fun x y => x.index ≠ y.index) {e : Entry}
    (he : e ∈ s.store.entries) (f : Entry → Entry) : s.modifyEntry e.index f = s.withEntry e (f e) := by
  have hmap : (s.store.entries.map fun y => if y.index = e.index then f y else y) =
      s.store.entries.map fun y => if y = e then f e else y := by
    refine List.map_congr_left fun y hy => ?_
    by_cases hye : y = e
    · rw [if_pos (congrArg Entry.index hye), if_pos hye, hye]
    · rw [if_neg fun hindex => hye (Part.eq_of_index hs he hy hindex), if_neg hye]
  rw [Part.modifyEntry, hmap]
  rfl

/-- R25: an index with no complete entry. -/
theorem Part.retire_of_incomplete {s : Part} {b : BitVec 16}
    (h : ∀ y ∈ s.store.entries, y.index = b → y.complete s.bank.installedTowers = false) : s.retire b = s := by
  unfold Part.retire
  rw [List.filter_eq_self.mpr]
  · rfl
  · intro y hy
    by_cases hb : y.index = b
    · simp [h y hy hb]
    · simp [hb]

/-- R35, R36: an installed tower's block weighed, with no change and no contactor command in flight. -/
theorem Part.weigh_still {s : Part} {k : Tower} (hk : s.bank.installed k = true) (h : s.change? = none)
    (hcontacts : s.contactsInFlight = []) (level : Nat) (x : Block) :
    s.weigh level k x = s.setTable { s.table with
      quiet := quietUnder s.tables.mem
        (setAt s.table.quietRuns k (if x.power ≤ (level : Int) then bump 255 s.table.quietRuns[k] else 0))
      quietRuns := setAt s.table.quietRuns k (if x.power ≤ (level : Int) then bump 255 s.table.quietRuns[k] else 0) } := by
  unfold Part.weigh
  rw [if_pos hk]
  exact Part.evaluateQuiet_still h hcontacts

/-- R22: a tower with no block in an entry. -/
theorem Entry.has_eq_false {e : Entry} {k : Tower} (hr : k = e.refTower → e.refBlock = none)
    (hheld : ∀ y, (k, y) ∉ e.held) (hcombined : k ∉ e.combined) : e.has k = false := by
  rw [← Bool.not_eq_true, Entry.has_iff]
  rintro (⟨href, hblock⟩ | ⟨y, hy⟩ | hy)
  exacts [hblock (hr href), hheld y hy, hcombined hy]

/-- R31: an arrival that finds an entry of its index with no reference block. -/
theorem Part.arrival_held {s : Part} {k : Tower} {payload : List Byte} {e : Entry}
    (hs : s.store.entries.Pairwise fun x y => x.index ≠ y.index) (he : e ∈ s.store.entries)
    (hindex : e.index = indexOf payload) (hblock : e.refBlock = none) (href : k ≠ e.refTower) (hhas : e.has k = false) :
    s.arrival k payload =
      ((s.modifyEntry e.index fun y => { y with held := addHeld y.held k (blockOf payload) }).weigh s.bank.quietLevel k
        (blockOf payload)).retire e.index := by
  unfold Part.arrival
  dsimp only
  rw [← hindex, Part.entryOf_of_mem hs he]
  dsimp only
  rw [hhas, if_neg Bool.false_ne_true, Part.pairArrival, if_neg href, hblock]
  rfl

theorem quietUnder_iff (m : Memory) (runs : Vector Nat 12) :
    quietUnder m runs = true ↔ ∀ j : Tower, (activeBank m).installed j = true → 2 ≤ runs[j] := by
  simp only [quietUnder, Bank.installedTowers, List.all_filter, List.all_eq_true, towers, List.mem_finRange, true_implies,
    Bool.or_eq_true, Bool.not_eq_true', decide_eq_true_eq]
  exact forall_congr' fun j => by cases (activeBank m).installed j <;> simp

/-- The part in which a tower's block is held. -/
def Part.holding (s : Part) (e : Entry) (k : Tower) (x : Block) : Part :=
  let runs := setAt s.table.quietRuns k
    (if x.power ≤ (s.bank.quietLevel : Int) then bump 255 s.table.quietRuns[k] else 0)
  { s.withEntry e { e with held := addHeld e.held k x } with
    table := { s.table with quiet := quietUnder s.tables.mem runs, quietRuns := runs } }

/-- R31, R35, R36: a block that is held, with no change and no contactor command in flight. -/
theorem Part.arrival_holding {s : Part} {k : Tower} {payload : List Byte} {e : Entry}
    (hs : s.store.entries.Pairwise fun x y => x.index ≠ y.index) (he : e ∈ s.store.entries)
    (hindex : e.index = indexOf payload) (hblock : e.refBlock = none) (href : k ≠ e.refTower) (hhas : e.has k = false)
    (hk : s.bank.installed k = true) (hchange : s.change? = none) (hcontacts : s.contactsInFlight = []) :
    s.arrival k payload = s.holding e k (blockOf payload) := by
  have hheld := Part.modifyEntry_eq hs he fun y => { y with held := addHeld y.held k (blockOf payload) }
  have hweigh := Part.weigh_still (s := s.withEntry e { e with held := addHeld e.held k (blockOf payload) }) hk hchange
    hcontacts s.bank.quietLevel (blockOf payload)
  rw [Part.arrival_held hs he hindex hblock href hhas, hheld, hweigh, Part.retire_of_incomplete]
  · rfl
  · intro y hy hyindex
    obtain ⟨z, hz, rfl⟩ := List.mem_map.mp hy
    by_cases hze : z = e
    · rw [if_pos hze]
      simp [Entry.complete, hblock]
    · rw [if_neg hze] at hyindex
      exact absurd (Part.eq_of_index hs he hz hyindex) hze

/-- Settles O15: with neither a change nor a contactor command in flight, a held block moves its tower's quiet run alone. -/
theorem sampleWithoutReferenceIsHeld : Obligations.SampleWithoutReferenceIsHeld := by
  intro src payload k e s h hup hlength hk hforward hmode hcontacts hs he hindex hblock href hheld hcombined x
  have hhas := Entry.has_eq_false (fun h => absurd h href) hheld hcombined
  have harrive := Part.arrival_holding (s := s.part.fieldHeard.setRaised []) hs he hindex hblock href hhas
    (Bank.installed_of_towerOfNode hk) (Part.change?_of_mode hmode) (Part.contactsInFlight_eq_nil hcontacts)
  have hexec := exec_sample_settled (p := s.part.fieldHeard.holding e k x) h hup hlength hk
    (by rw [harrive]; exact Part.settle_of_none rfl) fun hflag => absurd (hforward.symm.trans hflag) Bool.false_ne_true
  rw [if_neg (by rw [hforward]; exact Bool.false_ne_true)] at hexec
  exact ⟨_, hexec, rfl, rfl, quietUnder_iff _ _⟩

end Sys2Proof.Machine
end

section
/-! SUPPORT. What the end of an event leaves of the windows, where the part is STOPPED or HALTED. -/

namespace Sys2Proof.Machine

/-- What the windows and the entries depend on: the part without what QUIET, the ports, the fault list and a halt
rewrite. -/
def Part.measured (s : Part) : Part :=
  { Part.cold with
    tables := s.tables, timer := s.timer, store := s.store, corr := s.corr, round := s.round
    table := { Part.cold.table with readings := s.table.readings } }

theorem Part.measured_bank (s : Part) : s.measured.bank = s.bank := rfl

theorem Part.of_measured {s t : Part} (h : t.measured = s.measured) :
    t.corr = s.corr ∧ t.table.readings = s.table.readings ∧ t.round = s.round ∧ t.timer = s.timer ∧
      t.tables = s.tables ∧ t.store = s.store := by
  have hcorr := congrArg Part.corr h
  have hreadings := congrArg (fun p : Part => p.table.readings) h
  have hround := congrArg Part.round h
  have htimer := congrArg Part.timer h
  have htables := congrArg Part.tables h
  have hstore := congrArg Part.store h
  exact ⟨hcorr, hreadings, hround, htimer, htables, hstore⟩

/-- The part is in STOPPED or HALTED. -/
def Part.AtRest (s : Part) : Prop := s.seq.mode = .stopped ∨ s.seq.mode = .halted

theorem Part.AtRest.change? {s : Part} (h : s.AtRest) : s.change? = none := Part.change?_of_mode h

theorem Part.setSeq_measured (s : Part) (x : Sequencer) : (s.setSeq x).measured = s.measured := rfl

/-! ### The ports -/

theorem Part.stationChoice_rest (s : Part) : s.stationChoice.measured = s.measured ∧ s.stationChoice.seq = s.seq := by
  unfold Part.stationChoice
  split
  · exact ⟨rfl, rfl⟩
  · split
    · exact ⟨rfl, rfl⟩
    · split
      · exact ⟨rfl, rfl⟩
      · split <;> exact ⟨rfl, rfl⟩

theorem Part.stationKick_rest (s : Part) : s.stationKick.measured = s.measured ∧ s.stationKick.seq = s.seq := by
  unfold Part.stationKick
  split
  · exact s.stationChoice_rest
  · exact ⟨rfl, rfl⟩

theorem Part.queueStation_rest (s : Part) (o : Port) (f : Frame) :
    (s.queueStation o f).measured = s.measured ∧ (s.queueStation o f).seq = s.seq := by
  unfold Part.queueStation
  split
  · exact Part.stationKick_rest _
  · cases o <;> exact ⟨rfl, rfl⟩

/-! ### Records and raises -/

theorem Part.endRecords_measured (s : Part) (p : FaultRecord → Bool) : (s.endRecords p).measured = s.measured := by
  unfold Part.endRecords
  dsimp only
  split <;> rfl

theorem Part.raiseEach_rest (k : FaultKind) (cls : FaultClass) (os : List FaultObject) (s : Part) :
    (s.raiseEach k cls os).measured = s.measured ∧ (s.raiseEach k cls os).seq = s.seq := by
  induction os generalizing s with
  | nil => exact ⟨rfl, rfl⟩
  | cons o os ih => exact ih (s.raise k o cls)

/-- R164: a valid frame at the Field Port. -/
theorem Part.linkAlive_field_rest (s : Part) :
    (s.linkAlive .field).measured = s.measured ∧ (s.linkAlive .field).seq.mode = s.seq.mode := by
  unfold Part.linkAlive
  dsimp only
  split
  · exact ⟨rfl, rfl⟩
  · exact ⟨Part.endRecords_measured _ _, Part.endRecords_mode _ _⟩

/-! ### Reactions -/

theorem Part.emptySlot_measured (s : Part) : s.emptySlot.measured = s.measured := by
  unfold Part.emptySlot
  split <;> rfl

theorem Part.forceZero_measured (s : Part) : s.forceZero.measured = s.measured :=
  (Part.stationKick_rest _).1

theorem Part.stopEngines_measured (s : Part) : s.stopEngines.measured = s.measured := rfl

/-- R93: a halt leaves the windows, whatever it ends. -/
theorem Part.halt_measured (s : Part) : s.halt.measured = s.measured := by
  unfold Part.halt
  split
  · rfl
  · rw [Part.setSeq_measured, Part.stopEngines_measured]
    exact (Part.forceZero_measured _).trans ((Part.endRecords_measured _ _).trans s.emptySlot_measured)

theorem Part.halt_atRest (s : Part) : s.halt.AtRest := by
  unfold Part.halt
  split
  next h => exact .inr (by simpa [Part.isHalted] using h)
  next => exact .inr rfl

/-- R158, R160: only a halt is a reaction at rest. -/
theorem Part.reactOnce_rest {s : Part} (h : s.AtRest) : s.reactOnce.measured = s.measured ∧ s.reactOnce.AtRest := by
  unfold Part.reactOnce
  dsimp only
  split
  · exact ⟨Part.halt_measured _, Part.halt_atRest _⟩
  · unfold Part.turnBack
    rw [show (s.setRaised []).change? = none from h.change?]
    exact ⟨rfl, h⟩
  · have hdegrade : (s.setRaised []).degrade = s.setRaised [] := by
      unfold Part.degrade
      rw [Part.setRaised_seq]
      obtain h | h := h <;> rw [h]
    rw [hdegrade]
    exact ⟨rfl, h⟩
  · exact ⟨rfl, h⟩

theorem Part.react_rest (n : Nat) {s : Part} (h : s.AtRest) : (Part.react n s).measured = s.measured ∧
    (Part.react n s).AtRest := by
  induction n generalizing s with
  | zero => exact ⟨rfl, h⟩
  | succ n ih =>
    rw [Part.react]
    split
    · exact ⟨rfl, h⟩
    · obtain ⟨hmeasured, hrest⟩ := Part.reactOnce_rest h
      obtain ⟨hmeasured', hrest'⟩ := ih hrest
      exact ⟨hmeasured'.trans hmeasured, hrest'⟩

theorem Part.settle_rest {s : Part} (h : s.AtRest) : s.settle.measured = s.measured ∧ s.settle.AtRest :=
  Part.react_rest 4 h

/-! ### QUIET -/

theorem Part.evaluateQuiet_rest {s : Part} (h : s.AtRest) : s.evaluateQuiet.measured = s.measured ∧
    s.evaluateQuiet.AtRest := by
  obtain hquiet | hquiet := Part.evaluateQuiet_of_no_change h.change?
  · rw [hquiet]
    exact ⟨rfl, h⟩
  · obtain ⟨hmeasured, hseq⟩ := Part.raiseEach_rest .rfInSwitch .a _ (s.setTable { s.table with quiet := s.quietNow })
    rw [hquiet]
    refine ⟨hmeasured, ?_⟩
    unfold Part.AtRest Part.raiseRfInSwitch
    rw [hseq]
    exact h

/-- R35, R36: a block weighed at rest. -/
theorem Part.weigh_rest {s : Part} (h : s.AtRest) (level : Nat) (k : Tower) (x : Block) :
    (s.weigh level k x).measured = s.measured ∧ (s.weigh level k x).AtRest := by
  unfold Part.weigh
  dsimp only
  split
  · exact Part.evaluateQuiet_rest h
  · exact ⟨rfl, h⟩

/-- R26, R167: a SAMPLE whose arrival leaves the part at rest, and its copy. -/
theorem Part.takeSample_rest {s : Part} {f : Frame} {k : Tower} (hk : s.bank.towerOfNode f.src = some k)
    (hlength : f.payload.length = 131) (h : (s.arrival k f.payload).AtRest) :
    (s.takeSample f).measured = (s.arrival k f.payload).measured ∧ (s.takeSample f).AtRest := by
  obtain ⟨hsettle, hrest⟩ := Part.settle_rest h
  rw [Part.takeSample_eq hk hlength]
  split
  · obtain ⟨hqueue, hseq⟩ := Part.queueStation_rest (s.arrival k f.payload).settle .field (copyFrame f)
    refine ⟨hqueue.trans hsettle, ?_⟩
    unfold Part.AtRest
    rw [hseq]
    exact hrest
  · exact ⟨hsettle, hrest⟩

/-- R26, R150: an event of a SAMPLE whose arrival leaves the part at rest. -/
theorem exec_sample_rest {src : Byte} {payload : List Byte} {k : Tower} {s : State} (h : s.part.taking)
    (hlength : payload.length = 131) (hk : s.part.bank.towerOfNode src = some k)
    {p : Part} (hp : p = ((s.part.setRaised []).linkAlive .field).arrival k payload) (hrest : p.AtRest) :
    ∃ t, exec (.sampleArrival src payload) s = .next t ∧ t.part.measured = p.measured := by
  subst hp
  have hbank : ((s.part.setRaised []).linkAlive .field).bank = s.part.bank := by
    rw [← Part.measured_bank, (s.part.setRaised []).linkAlive_field_rest.1]
    rfl
  obtain ⟨hmeasured, hrest⟩ := Part.takeSample_rest (f := sampleFrame src payload) (by rw [hbank]; exact hk) hlength hrest
  exact ⟨_, exec_sampleArrival h, (Part.settle_rest hrest).1.trans hmeasured⟩

end Sys2Proof.Machine
end

section
/-! PROOFS. SAMPLE frames that are combined. -/

namespace Sys2Proof.Machine

/-! ### Accumulation -/

/-- R42: the shift rounds toward negative infinity. -/
theorem scaled_eq (s : Nat) (z : Int) : scaled s z = z.fdiv (2 ^ s) :=
  (Int.fdiv_eq_ediv_of_nonneg z (by positivity)).symm

/-- R43: a sum held within 40 bits. -/
theorem saturate_eq (z : Int) : saturate z = max (-549755813888) (min z 549755813887) := by
  unfold saturate accumMax accumMin
  split_ifs <;> omega

/-- R43: a sum that is out of range is lost. -/
theorem saturate_bne (z : Int) : (saturate z != z) = decide (z < -549755813888 ∨ 549755813887 < z) := by
  rw [Bool.eq_iff_iff, bne_iff_ne, decide_eq_true_iff, saturate_eq]
  omega

/-- The part with an addition made to a tower's set, whose window stays open. -/
def Part.accumulate (s : Part) (k : Tower) (add : Accum → Accum) : Part :=
  s.setCorr { s.corr with accums := setAt s.corr.accums k (add s.corr.accums[k]) }

theorem Part.accumulate_eq {s : Part} {x : Correlator} (h : s.corr = x) (k : Tower) (add : Accum → Accum) :
    s.accumulate k add = s.setCorr { x with accums := setAt x.accums k (add x.accums[k]) } := by
  subst h
  rfl

/-- R43: an addition that leaves the count below W. -/
theorem Part.addItem_of_open {s : Part} {k : Tower} {add : Accum → Accum}
    (h : (add s.corr.accums[k]).count < 2 ^ s.corr.config.w) : s.addItem k add = s.accumulate k add :=
  if_neg (Nat.not_le.mpr h)

/-- R22, R38: what the Correlator makes of an item of an entry, which it takes in an EPOCH entry alone. -/
def Entry.item (e : Entry) (add : Accum → Accum) : Accum → Accum := if e.epoch then add else id

theorem setAt_self {α : Type} {n : Nat} (v : Vector α n) (i : Fin n) : setAt v i v[i] = v := Vector.set_getElem_self _

theorem getElem_setAt {α : Type} {n : Nat} (v : Vector α n) (i j : Fin n) (x : α) :
    (setAt v i x)[j] = if j = i then x else v[j] := by
  have h := Vector.getElem_set (xs := v) (x := x) i.isLt j.isLt
  simp only [Fin.ext_iff, eq_comm (a := j.val)]
  exact h

theorem Part.accumulate_id (s : Part) (k : Tower) : s.accumulate k id = s := by
  rw [Part.accumulate, id, setAt_self]
  rfl

theorem Part.accumulate_of_ne {s : Part} {j k : Tower} (h : j ≠ k) (add : Accum → Accum) :
    (s.accumulate k add).corr.accums[j] = s.corr.accums[j] :=
  (getElem_setAt _ _ _ _).trans (if_neg h)

/-- R32, R40: the sets of accumulation with an item added for each of a list of towers. -/
def gathered (item : Block → Accum → Accum) (l : List (Tower × Block)) (v : Vector Accum 12) : Vector Accum 12 :=
  l.foldl (fun v z => setAt v z.1 (item z.2 v[z.1])) v

theorem gathered_of_not_mem {item : Block → Accum → Accum} {l : List (Tower × Block)} {j : Tower}
    (h : ∀ z ∈ l, z.1 ≠ j) (v : Vector Accum 12) : (gathered item l v)[j] = v[j] := by
  induction l generalizing v with
  | nil => rfl
  | cons z l ih =>
    obtain ⟨hz, hl⟩ := List.forall_mem_cons.mp h
    refine (ih hl _).trans ?_
    rw [getElem_setAt, if_neg hz.symm]

theorem gathered_of_mem {item : Block → Accum → Accum} {l : List (Tower × Block)} {j : Tower} {y : Block}
    (hl : l.Pairwise fun y z => y.1 ≠ z.1) (h : (j, y) ∈ l) (v : Vector Accum 12) :
    (gathered item l v)[j] = item y v[j] := by
  induction l generalizing v with
  | nil => exact absurd h List.not_mem_nil
  | cons z l ih =>
    obtain ⟨hz, hl'⟩ := List.pairwise_cons.mp hl
    obtain rfl | hmem := List.mem_cons.mp h
    · refine (gathered_of_not_mem (fun x hx => (hz x hx).symm) _).trans ?_
      rw [getElem_setAt, if_pos rfl]
    · refine (ih hl' hmem _).trans ?_
      rw [getElem_setAt, if_neg (hz _ hmem).symm]

/-! ### One entry rewritten -/

theorem Part.withEntry_indices (s : Part) {e e' : Entry} (hi : e'.index = e.index) :
    (s.withEntry e e').store.entries.map Entry.index = s.store.entries.map Entry.index := by
  refine (List.map_map).trans (List.map_congr_left fun y _ => ?_)
  by_cases hy : y = e
  · simp [hy, hi]
  · simp [hy]

theorem Part.withEntry_pairwise {s : Part} (hs : s.store.entries.Pairwise fun x y => x.index ≠ y.index) {e e' : Entry}
    (hi : e'.index = e.index) : (s.withEntry e e').store.entries.Pairwise fun x y => x.index ≠ y.index := by
  have hindices : (s.store.entries.map Entry.index).Pairwise fun i j => i ≠ j := List.pairwise_map.mpr hs
  rw [← s.withEntry_indices hi] at hindices
  exact List.pairwise_map.mp hindices

theorem Part.mem_withEntry {s : Part} {e : Entry} (he : e ∈ s.store.entries) (e' : Entry) :
    e' ∈ (s.withEntry e e').store.entries :=
  List.mem_map.mpr ⟨e, he, if_pos rfl⟩

theorem Part.withEntry_self (s : Part) (e : Entry) : s.withEntry e e = s := by
  have h : (s.store.entries.map fun y => if y = e then e else y) = s.store.entries := by
    refine (List.map_congr_left fun y _ => ?_).trans (List.map_id _)
    by_cases hy : y = e
    · rw [if_pos hy, hy, id]
    · rw [if_neg hy, id]
  rw [Part.withEntry, h]

theorem Part.withEntry_withEntry {s : Part} (hs : s.store.entries.Pairwise fun x y => x.index ≠ y.index)
    {e e' : Entry} (he : e ∈ s.store.entries) (hi : e'.index = e.index) (e'' : Entry) :
    (s.withEntry e e').withEntry e' e'' = s.withEntry e e'' := by
  have h : ((s.store.entries.map fun y => if y = e then e' else y).map fun y => if y = e' then e'' else y) =
      s.store.entries.map fun y => if y = e then e'' else y := by
    refine (List.map_map).trans (List.map_congr_left fun y hy => ?_)
    by_cases hye : y = e
    · simp [hye]
    · have hye' : y ≠ e' := fun h => hye (Part.eq_of_index hs he hy ((congrArg Entry.index h).trans hi))
      simp [hye, hye']
  unfold Part.withEntry
  rw [h]

/-! ### Combination -/

/-- R32: a tower's block combined with the reference block of the entry, whose window stays open. -/
theorem Part.combine_eq {s : Part} (hs : s.store.entries.Pairwise fun x y => x.index ≠ y.index) {e : Entry}
    (he : e ∈ s.store.entries) {r : Block} (hr : e.refBlock = some r) {k : Tower}
    (hopen : s.corr.accums[k].count + 1 < 2 ^ s.corr.config.w) (x : Block) :
    s.combine e.index k x =
      (s.withEntry e (e.join k)).accumulate k (e.item fun a => a.addCross s.corr.config.s r x) := by
  have hentry : s.modifyEntry e.index
      (fun e => { e with held := e.held.filter (fun y => y.1 ≠ k), combined := addTower e.combined k }) =
      s.withEntry e (e.join k) := Part.modifyEntry_eq hs he _
  unfold Part.combine
  rw [Part.entryOf_of_mem hs he]
  dsimp only
  rw [hr]
  dsimp only
  rw [hentry, Entry.item]
  split
  · exact Part.addItem_of_open hopen
  · exact (Part.accumulate_id _ k).symm

/-- R29, R32: the part in which every held tower of an entry is combined with its reference block. -/
def Part.combinedAll (s : Part) (e : Entry) (r : Block) : Part :=
  (s.withEntry e { e with held := [], combined := (e.held.map Prod.fst).foldl addTower e.combined }).setCorr
    { s.corr with
      accums := gathered (fun y => e.item fun a => a.addCross s.corr.config.s r y) e.held s.corr.accums }

/-- R32: the first held tower of an entry has joined. -/
theorem Entry.join_cons {e : Entry} {z : Tower × Block} {l : List (Tower × Block)} (hheld : e.held = z :: l)
    (hz : ∀ y ∈ l, z.1 ≠ y.1) : e.join z.1 = { e with held := l, combined := addTower e.combined z.1 } := by
  have hfilter : e.held.filter (fun y => y.1 ≠ z.1) = l := by
    rw [hheld, List.filter_cons_of_neg (by simp), List.filter_eq_self.mpr fun y hy => by simpa using (hz y hy).symm]
  rw [Entry.join, hfilter]

theorem Part.combinedAll_of_cons {s : Part} (hs : s.store.entries.Pairwise fun x y => x.index ≠ y.index) {e : Entry}
    (he : e ∈ s.store.entries) {z : Tower × Block} {l : List (Tower × Block)} (hheld : e.held = z :: l)
    (hz : ∀ y ∈ l, z.1 ≠ y.1) (r : Block) :
    ((s.withEntry e (e.join z.1)).accumulate z.1 (e.item fun a => a.addCross s.corr.config.s r z.2)).combinedAll
      (e.join z.1) r = s.combinedAll e r := by
  have hentry := Part.withEntry_withEntry hs he (e' := e.join z.1) rfl
    { e with held := [], combined := (e.held.map Prod.fst).foldl addTower e.combined }
  unfold Part.combinedAll
  rw [← hentry, Entry.join_cons hheld hz, hheld]
  rfl

theorem Part.combineHeld_eq {l : List (Tower × Block)} (hl : l.Pairwise fun y z => y.1 ≠ z.1) {r : Block} {e : Entry}
    {s : Part} (hs : s.store.entries.Pairwise fun x y => x.index ≠ y.index) (he : e ∈ s.store.entries)
    (hr : e.refBlock = some r) (hheld : e.held = l)
    (hopen : ∀ z ∈ l, s.corr.accums[z.1].count + 1 < 2 ^ s.corr.config.w) :
    Part.combineHeld e.index (l.map Prod.fst) s = s.combinedAll e r := by
  induction l generalizing e s with
  | nil =>
    have hentry : { e with held := [], combined := (e.held.map Prod.fst).foldl addTower e.combined } = e := by
      obtain ⟨_, _, _, _, held, _⟩ := e
      obtain rfl : held = [] := hheld
      rfl
    rw [Part.combinedAll, hentry, hheld, Part.withEntry_self]
    rfl
  | cons z l ih =>
    obtain ⟨hz, hl'⟩ := List.pairwise_cons.mp hl
    obtain ⟨hopenz, hopen'⟩ := List.forall_mem_cons.mp hopen
    have hfind : ((s.entryOf e.index).bind fun e => e.held.find? fun y => y.1 == z.1) = some z := by
      rw [Part.entryOf_of_mem hs he, Option.bind_some, hheld, List.find?_cons_of_pos (by simp)]
    rw [List.map_cons, Part.combineHeld, hfind]
    dsimp only
    rw [Part.combine_eq hs he hr hopenz, ← Part.combinedAll_of_cons hs he hheld hz r]
    refine ih hl' (e := e.join z.1) (Part.withEntry_pairwise hs rfl) (Part.mem_withEntry he _) hr
      (congrArg Entry.held (Entry.join_cons hheld hz)) fun y hy => ?_
    rw [Part.accumulate_of_ne (hz y hy).symm]
    exact hopen' y hy

/-! ### Arrivals -/

/-- R30: an arrival that finds an entry of its index with the reference block. -/
theorem Part.arrival_combined {s : Part} {k : Tower} {payload : List Byte} {e : Entry}
    (hs : s.store.entries.Pairwise fun x y => x.index ≠ y.index) (he : e ∈ s.store.entries)
    (hindex : e.index = indexOf payload) {r : Block} (hr : e.refBlock = some r) (href : k ≠ e.refTower)
    (hhas : e.has k = false) :
    s.arrival k payload = ((s.combine e.index k (blockOf payload)).weigh s.bank.quietLevel k (blockOf payload)).retire
      e.index := by
  unfold Part.arrival
  dsimp only
  rw [← hindex, Part.entryOf_of_mem hs he]
  dsimp only
  rw [hhas, if_neg Bool.false_ne_true, Part.pairArrival, if_neg href, hr]
  rfl

/-- R29: the arrival of the reference block. -/
theorem Part.arrival_reference {s : Part} {payload : List Byte} {e : Entry}
    (hs : s.store.entries.Pairwise fun x y => x.index ≠ y.index) (he : e ∈ s.store.entries)
    (hindex : e.index = indexOf payload) (hhas : e.has e.refTower = false) :
    s.arrival e.refTower payload = s.referenceArrival e (blockOf payload) := by
  unfold Part.arrival
  dsimp only
  rw [← hindex, Part.entryOf_of_mem hs he]
  dsimp only
  rw [hhas, if_neg Bool.false_ne_true, Part.pairArrival, if_pos rfl]

/-- R29, R31, R32: the part that the reference block leaves, its windows open. -/
def Part.referenced (s : Part) (e : Entry) (x : Block) : Part :=
  ((s.withEntry e { e with refBlock := some x }).accumulate e.refTower
    (e.item fun a => a.addSelf s.corr.config.s x)).combinedAll { e with refBlock := some x } x

/-- R29, R32, R40: the Correlator that the reference block of an entry leaves. -/
def Correlator.referenced (x : Correlator) (e : Entry) (b : Block) : Correlator :=
  { x with
    accums := gathered (fun y => e.item fun a => a.addCross x.config.s b y) e.held
      (setAt x.accums e.refTower (e.item (fun a => a.addSelf x.config.s b) x.accums[e.refTower])) }

theorem Part.referenced_eq {s : Part} (hs : s.store.entries.Pairwise fun x y => x.index ≠ y.index) {e : Entry}
    (he : e ∈ s.store.entries) (x : Block) :
    s.referenced e x =
      (s.withEntry e { e with
        refBlock := some x, held := [], combined := (e.held.map Prod.fst).foldl addTower e.combined }).setCorr
        (s.corr.referenced e x) := by
  rw [← Part.withEntry_withEntry hs he (e' := { e with refBlock := some x }) rfl]
  rfl

theorem Correlator.referenced_of_ref {x : Correlator} {e : Entry} (href : ∀ z ∈ e.held, z.1 ≠ e.refTower)
    (b : Block) :
    (x.referenced e b).accums[e.refTower] = e.item (fun a => a.addSelf x.config.s b) x.accums[e.refTower] :=
  (gathered_of_not_mem href _).trans ((getElem_setAt _ _ _ _).trans (if_pos rfl))

theorem Correlator.referenced_of_held {x : Correlator} {e : Entry} (href : ∀ z ∈ e.held, z.1 ≠ e.refTower)
    (hl : e.held.Pairwise fun y z => y.1 ≠ z.1) {j : Tower} {y : Block} (h : (j, y) ∈ e.held) (b : Block) :
    (x.referenced e b).accums[j] = e.item (fun a => a.addCross x.config.s b y) x.accums[j] := by
  refine (gathered_of_mem hl h _).trans ?_
  rw [getElem_setAt, if_neg (href _ h)]

theorem Correlator.referenced_of_other {x : Correlator} {e : Entry} {j : Tower} (hj : j ≠ e.refTower)
    (h : ∀ z ∈ e.held, z.1 ≠ j) (b : Block) : (x.referenced e b).accums[j] = x.accums[j] :=
  (gathered_of_not_mem h _).trans ((getElem_setAt _ _ _ _).trans (if_neg hj))

/-- R38: the blocks of an entry that is not an EPOCH entry are not accumulated. -/
theorem Correlator.referenced_of_not_epoch {e : Entry} (h : e.epoch = false) (x : Correlator) (b : Block) :
    x.referenced e b = x := by
  have hitem : ∀ add, e.item add = id := fun add => if_neg (by rw [h]; exact Bool.false_ne_true)
  have hgather : ∀ (l : List (Tower × Block)) (v : Vector Accum 12), gathered (fun _ => id) l v = v := by
    intro l v
    induction l with
    | nil => rfl
    | cons z l ih => exact (congrArg (gathered (fun _ => id) l) (setAt_self v z.1)).trans ih
  unfold Correlator.referenced
  simp only [hitem]
  rw [hgather, id, setAt_self]

theorem Part.referenceArrival_eq {s : Part} (hs : s.store.entries.Pairwise fun x y => x.index ≠ y.index) {e : Entry}
    (he : e ∈ s.store.entries) (hl : e.held.Pairwise fun y z => y.1 ≠ z.1) (href : ∀ z ∈ e.held, z.1 ≠ e.refTower)
    (hopen : ∀ j : Tower, j = e.refTower ∨ (∃ y, (j, y) ∈ e.held) →
      s.corr.accums[j].count + 1 < 2 ^ s.corr.config.w) (x : Block) :
    s.referenceArrival e x = ((s.referenced e x).weigh s.bank.quietLevel e.refTower x).retire e.index := by
  have hentry : s.modifyEntry e.index (fun e => { e with refBlock := some x }) =
      s.withEntry e { e with refBlock := some x } := Part.modifyEntry_eq hs he _
  have hself : (if e.epoch then (s.withEntry e { e with refBlock := some x }).addItem e.refTower fun a =>
      a.addSelf s.corr.config.s x else s.withEntry e { e with refBlock := some x }) =
      (s.withEntry e { e with refBlock := some x }).accumulate e.refTower (e.item fun a => a.addSelf s.corr.config.s x) := by
    rw [Entry.item]
    split
    · exact Part.addItem_of_open (hopen _ (.inl rfl))
    · exact (Part.accumulate_id _ _).symm
  have hheld := Part.combineHeld_eq hl (r := x) (e := { e with refBlock := some x })
    (s := (s.withEntry e { e with refBlock := some x }).accumulate e.refTower (e.item fun a => a.addSelf s.corr.config.s x))
    (Part.withEntry_pairwise hs rfl) (Part.mem_withEntry he _) rfl rfl fun z hz => by
      rw [Part.accumulate_of_ne (href z hz)]
      exact hopen z.1 (.inr ⟨z.2, hz⟩)
  unfold Part.referenceArrival
  dsimp only
  rw [hentry]
  refine congrArg (fun p : Part => (p.weigh s.bank.quietLevel e.refTower x).retire e.index) ?_
  exact (congrArg _ hself).trans hheld

/-! ### Retirement -/

/-- R25: the completeness of an entry. -/
theorem Entry.complete_iff {e : Entry} {b : Bank} : e.complete b.installedTowers = true ↔
    e.refBlock ≠ none ∧ ∀ j : Tower, b.installed j = true → j = e.refTower ∨ j ∈ e.combined := by
  simp only [Entry.complete, Bank.installedTowers, towers, List.all_filter, Bool.and_eq_true, List.all_eq_true,
    List.mem_finRange, true_implies, Option.isSome_iff_ne_none, Bool.or_eq_true, Bool.not_eq_true', beq_iff_eq,
    List.contains_iff_mem]
  exact and_congr_right fun _ => forall_congr' fun j => by cases b.installed j <;> simp

theorem Part.withEntry_retire {s : Part} (hs : s.store.entries.Pairwise fun x y => x.index ≠ y.index) {e e' : Entry}
    (he : e ∈ s.store.entries) (hi : e'.index = e.index) :
    ((s.withEntry e e').retire e.index).store.entries =
      if e'.complete s.bank.installedTowers then s.store.entries.filter fun y => decide (y ≠ e)
      else s.store.entries.map fun y => if y = e then e' else y := by
  have hkept : ∀ y ∈ s.store.entries, y ≠ e → (y.index == e.index) = false := fun y hy hye =>
    beq_eq_false_iff_ne.mpr fun h => hye (Part.eq_of_index hs he hy h)
  refine (List.filter_map ..).trans ?_
  split
  next hcomplete =>
    have hgoes : s.store.entries.filter ((fun y => !(y.index == e.index && y.complete s.bank.installedTowers)) ∘
        fun y => if y = e then e' else y) = s.store.entries.filter fun y => decide (y ≠ e) := by
      refine List.filter_congr fun y hy => ?_
      by_cases hye : y = e
      · simp [hye, hi, hcomplete]
      · simp [hye, hkept y hy hye]
    refine (congrArg _ hgoes).trans ((List.map_congr_left fun y hy => ?_).trans (List.map_id _))
    exact if_neg (of_decide_eq_true (List.mem_filter.mp hy).2)
  next hcomplete =>
    refine congrArg _ (List.filter_eq_self.mpr fun y hy => ?_)
    by_cases hye : y = e
    · have hbank : (s.withEntry e e').bank = s.bank := rfl
      simp [hye, hbank, hcomplete]
    · simp [hye, hkept y hy hye]

/-- R25, R29 to R32: the part `t` has the readings, the round, the time and the tables of `s`, and its entries with one
rewritten, or retired where every installed tower has been combined in it. -/
def Part.Leaves (s t : Part) (e e' : Entry) : Prop :=
  t.table.readings = s.table.readings ∧ t.round = s.round ∧ t.timer = s.timer ∧ t.tables = s.tables ∧
    (let done := ∀ j : Tower, s.bank.installed j = true → j = e.refTower ∨ j ∈ e'.combined
     (done → t.store.entries = s.store.entries.filter fun y => decide (y ≠ e)) ∧
     (¬done → t.store.entries = s.store.entries.map fun y => if y = e then e' else y))

theorem Part.leaves_of_retire {s t : Part} (hs : s.store.entries.Pairwise fun x y => x.index ≠ y.index) {e e' : Entry}
    (he : e ∈ s.store.entries) (hi : e'.index = e.index) (href : e'.refTower = e.refTower) (hr : e'.refBlock ≠ none)
    {x : Correlator} (ht : t.measured = (((s.withEntry e e').setCorr x).retire e.index).measured) :
    t.corr = x ∧ s.Leaves t e e' := by
  obtain ⟨hcorr, hreadings, hround, htimer, htables, hstore⟩ := Part.of_measured ht
  have hentries : t.store.entries = ((s.withEntry e e').retire e.index).store.entries :=
    congrArg PairingStore.entries hstore
  rw [Part.withEntry_retire hs he hi] at hentries
  have hcomplete := Entry.complete_iff (e := e') (b := s.bank)
  rw [href] at hcomplete
  refine ⟨hcorr, hreadings, hround, htimer, htables, fun hdone => ?_, fun hdone => ?_⟩
  · rw [hentries, if_pos (hcomplete.mpr ⟨hr, hdone⟩)]
  · rw [hentries, if_neg fun h => hdone (hcomplete.mp h).2]

theorem Part.retire_measured (s : Part) (b : BitVec 16) : (s.retire b).measured = s.measured.retire b := rfl

/-- What is weighed and retired at rest, as the windows see it. -/
theorem Part.weigh_retire_rest {s : Part} (h : s.AtRest) (level : Nat) (k : Tower) (x : Block) (b : BitVec 16) :
    ((s.weigh level k x).retire b).measured = (s.retire b).measured ∧ ((s.weigh level k x).retire b).AtRest := by
  obtain ⟨hmeasured, hrest⟩ := Part.weigh_rest h level k x
  exact ⟨by rw [Part.retire_measured, Part.retire_measured, hmeasured], hrest⟩

/-! ### The event -/

theorem Part.withEntry_retire_congr {s t : Part} (h : t.measured = s.measured) (e e' : Entry) (x : Correlator)
    (b : BitVec 16) :
    (((t.withEntry e e').setCorr x).retire b).measured = (((s.withEntry e e').setCorr x).retire b).measured := by
  have hview : ∀ p : Part, (((p.withEntry e e').setCorr x).retire b).measured =
      (((p.measured.withEntry e e').setCorr x).retire b).measured := fun _ => rfl
  rw [hview, h, ← hview]

/-- R25 to R32: the event of a SAMPLE whose arrival in STOPPED rewrites one entry and the sets of accumulation, weighs the
block and retires the entry where it is complete. -/
theorem exec_sample_joined {src : Byte} {payload : List Byte} {k : Tower} {e e' : Entry} {s : State} {x : Correlator}
    (h : s.part.taking) (hlength : payload.length = 131) (hk : s.part.bank.towerOfNode src = some k)
    (hmode : s.part.seq.mode = .stopped) (hs : s.part.store.entries.Pairwise fun y z => y.index ≠ z.index)
    (he : e ∈ s.part.store.entries) (hi : e'.index = e.index) (href : e'.refTower = e.refTower) (hr : e'.refBlock ≠ none)
    (harrive : ∀ p : Part, p.corr = s.part.corr → p.store = s.part.store →
      p.arrival k payload =
        (((p.withEntry e e').setCorr x).weigh p.bank.quietLevel k (blockOf payload)).retire e.index) :
    ∃ t, exec (.sampleArrival src payload) s = .next t ∧ t.part.corr = x ∧ s.part.Leaves t.part e e' := by
  obtain ⟨halive, hstopped⟩ := (s.part.setRaised []).linkAlive_field_rest
  obtain ⟨hcorr, _, _, _, _, hstore⟩ := Part.of_measured halive
  have hrest : ((((s.part.setRaised []).linkAlive .field).withEntry e e').setCorr x).AtRest :=
    .inl (hstopped.trans hmode)
  obtain ⟨hweigh, hrest'⟩ := Part.weigh_retire_rest hrest ((s.part.setRaised []).linkAlive .field).bank.quietLevel k
    (blockOf payload) e.index
  obtain ⟨t, ht, hmeasured⟩ := exec_sample_rest h hlength hk (harrive _ hcorr hstore).symm hrest'
  exact ⟨t, ht, Part.leaves_of_retire hs he hi href hr
    (hmeasured.trans (hweigh.trans (Part.withEntry_retire_congr halive e e' x e.index)))⟩

/-- R40, R42, R43: what is added for a cross pairing. -/
theorem Accum.addCross_eq (a : Accum) (s : Nat) (r y : Block) :
    a.addCross s r y = a.add ((crossRe r y).fdiv (2 ^ s)) ((crossIm r y).fdiv (2 ^ s)) (r.power.fdiv (2 ^ s))
      (r.overrange || y.overrange) := by
  rw [Accum.addCross, scaled_eq, scaled_eq, scaled_eq]

theorem Accum.addSelf_eq (a : Accum) (s : Nat) (r : Block) :
    a.addSelf s r = a.add 0 0 (r.power.fdiv (2 ^ s)) r.overrange := by
  rw [Accum.addSelf, scaled_eq]

/-- R43: an addition, with its saturation written out. -/
theorem Accum.add_eq (a : Accum) (re im p : Int) (o : Bool) :
    a.add re im p o =
      { re := max (-549755813888) (min (a.re + re) 549755813887)
        im := max (-549755813888) (min (a.im + im) 549755813887)
        p := max (-549755813888) (min (a.p + p) 549755813887), count := a.count + 1
        limit := a.limit || decide (a.re + re < -549755813888 ∨ 549755813887 < a.re + re) ||
          decide (a.im + im < -549755813888 ∨ 549755813887 < a.im + im) ||
          decide (a.p + p < -549755813888 ∨ 549755813887 < a.p + p)
        overrange := a.overrange || o } := by
  rw [Accum.add, saturate_bne, saturate_bne, saturate_bne, saturate_eq, saturate_eq, saturate_eq]

theorem Entry.join_of_not_held {e : Entry} {k : Tower} (h : ∀ y, (k, y) ∉ e.held) :
    e.join k = { e with combined := addTower e.combined k } := by
  have hfilter : e.held.filter (fun y => y.1 ≠ k) = e.held :=
    List.filter_eq_self.mpr fun y hy => decide_eq_true fun hyk => h y.2 (hyk ▸ hy)
  rw [Entry.join, hfilter]

/-- Settles O17: at rest, what follows the arrival leaves the windows and the entries, so the arrival's own work stands. -/
theorem combinedSampleIsAccumulated : Obligations.CombinedSampleIsAccumulated := by
  intro src payload k e s h hlength hk hmode hs he hindex x q sat lost added crossed short left
  have hcrossed : ∀ (a : Accum) (r y : Block), crossed a r y = a.addCross s.part.corr.config.s r y := fun a r y =>
    ((Accum.addCross_eq a _ r y).trans (Accum.add_eq a _ _ _ _)).symm
  refine ⟨fun r hr hepoch href hheld hcombined hopen => ?_, fun hr href hl hheld hcombined hopen => ?_⟩
  · have hhas := Entry.has_eq_false (fun h => absurd h href) hheld hcombined
    rw [hcrossed]
    refine exec_sample_joined h hlength hk hmode hs he rfl rfl (by simp [hr]) fun p hcorr hstore => ?_
    rw [← hstore] at hs he
    rw [Part.arrival_combined hs he hindex hr href hhas, Part.combine_eq hs he hr (by rw [hcorr]; exact hopen),
      Entry.join_of_not_held hheld, Entry.item, if_pos hepoch,
      Part.accumulate_eq (s := p.withEntry e { e with combined := addTower e.combined k }) hcorr, hcorr]
    rfl
  · subst href
    have hhas := Entry.has_eq_false (fun _ => hr) hheld hcombined
    have href : ∀ z ∈ e.held, z.1 ≠ e.refTower := fun z hz hzk => hheld z.2 (hzk ▸ hz)
    obtain ⟨t, ht, hcorr, hleft⟩ := exec_sample_joined (x := s.part.corr.referenced e x)
      (e' := { e with
        refBlock := some x, held := [], combined := (e.held.map Prod.fst).foldl addTower e.combined })
      h hlength hk hmode hs he rfl rfl (by simp) fun p hcorr hstore => by
        rw [← hstore] at hs he
        rw [Part.arrival_reference hs he hindex hhas,
          Part.referenceArrival_eq hs he hl href (by rw [hcorr]; exact hopen), Part.referenced_eq hs he, hcorr]
    refine ⟨t, ht, by rw [hcorr]; rfl, fun hepoch => ?_, fun hepoch => ?_, hleft⟩
    · rw [hcorr, Correlator.referenced_of_not_epoch hepoch]
    · have hitem : ∀ add, e.item add = add := fun add => if_pos hepoch
      rw [hcorr]
      refine ⟨?_, fun j y hy => ?_, fun j hj hother => ?_⟩
      · rw [Correlator.referenced_of_ref href, hitem]
        exact (Accum.addSelf_eq _ _ _).trans (Accum.add_eq _ _ _ _ _)
      · rw [Correlator.referenced_of_held href hl hy, hitem, hcrossed]
      · exact Correlator.referenced_of_other hj (fun z hz hzj => hother z.2 (hzj ▸ hz)) x

end Sys2Proof.Machine
end

section
/-! PROOFS. The warm reset. -/

namespace Sys2Proof.Machine

/-! ### The request refused -/

theorem exec_reset {src tag : Byte} {s : State} (h : s.part.taking) : exec (.reset src tag) s = .next
    { s with part := (s.part.met.resetRequest src tag).settle.drivePins } :=
  State.run_event (op := fun s => (s.linkAlive .station).resetRequest src tag) h

/-- R178: RESET outside STOPPED and HALTED. -/
theorem Part.resetRequest_refused {s : Part} (h : s.isChanging = true ∨ s.isInPattern = true) (src tag : Byte) :
    s.resetRequest src tag = s.replied (mgmtReply src tag 12 14 []) := by
  unfold Part.resetRequest
  rw [if_pos (by simpa using h), Part.answer_eq]
  rfl

theorem Part.changing_or_inPattern {s : Part} (hstopped : s.seq.mode ≠ .stopped) (hhalted : s.seq.mode ≠ .halted) :
    s.isChanging = true ∨ s.isInPattern = true := by
  unfold Part.isChanging Part.change? Part.isInPattern
  cases hm : s.seq.mode with
  | stopped => exact absurd hm hstopped
  | changing c => exact .inl rfl
  | inPattern => exact .inr rfl
  | halted => exact absurd hm hhalted

/-! ### The part that a warm reset leaves -/

/-- R178: what a warm reset keeps, everything else as at a cold reset; the monitor is not restarted yet. -/
def Part.warmKept (s : Part) : Part :=
  { Part.cold with
    lines := s.lines
    tables :=
      { s.tables with
        licenceWrite := s.tables.licenceWrite.map fun w => { w with deadline := rebase s.uptime w.deadline } }
    table := { Part.cold.table with readings := Vector.replicate 12 Reading.fresh }
    faults := s.faults.afterWarmReset
    clock := { s.clock with second := s.clock.second.map (rebase s.uptime) }
    sched := { s.sched with owed := false }
    free := s.free }

theorem Part.warmReset_restarts (s : Part) : s.warmReset =
    s.warmKept.restartIdle.setTable { s.warmKept.restartIdle.table with quiet := s.warmKept.restartIdle.quietNow } := rfl

/-- R51, R53: no tower is STALE where every reading is as a reset leaves it. -/
theorem Part.warmKept_staleTowers (s : Part) : s.warmKept.staleTowers = [] := by
  rw [Part.staleTowers, List.filter_eq_nil_iff]
  intro k _
  simp [Part.warmKept, Reading.fresh]

theorem Part.clearSettle_of_fresh {s : Part} (h : s.elems = Vector.replicate 40 ElemRecord.fresh) : s.clearSettle = s := by
  have hfresh : (mapAll s.elems fun _ r => { r with settleCount := 0 }) = s.elems := by
    rw [h]
    ext i hi
    simp [mapAll, ElemRecord.fresh]
  rw [Part.clearSettle, hfresh]
  rfl

/-- R38: the restart of a warm reset. -/
theorem Part.warmKept_restartIdle (s : Part) : s.warmKept.restartIdle = s.warmKept.restartState s.bank.idleConfig := by
  rw [Part.restartIdle, Part.restart, Part.warmKept_staleTowers]
  exact Part.clearSettle_of_fresh rfl

/-- R36, R38, R178: the part that a warm reset leaves, before its end. -/
theorem Part.warmReset_eq (s : Part) : s.warmReset =
    { s.warmKept with
      corr := { config := s.bank.idleConfig, accums := Vector.replicate 12 Accum.clear }
      table :=
        { readings := mapAll (Vector.replicate 12 Reading.fresh) fun k r => r.restart (decide (k = s.bank.idleRef))
          quietRuns := Vector.replicate 12 0
          quiet := quietUnder s.tables.mem (Vector.replicate 12 0)
          anyClipped := false } } := by
  rw [Part.warmReset_restarts, Part.warmKept_restartIdle]
  rfl

/-- R137, R175: the part that a warm reset leaves at its end, with TX_TRIP released: the reply is sent, and POWER 0 waits
behind it. -/
def Part.warmEnded (s : Part) (src tag : Byte) : Part :=
  { s.warmReset with
    station := { Part.cold.station with sending := some (mgmtReply src tag 12 0 []), power := some 0 } }

theorem Part.resetRequest_taken {s : Part} (h : s.seq.mode = .stopped ∨ s.seq.mode = .halted)
    (htrip : s.lines.txTrip = false) (src tag : Byte) : s.resetRequest src tag = s.warmEnded src tag := by
  have hidle : s.isInPattern = false := by
    unfold Part.isInPattern
    obtain h | h := h <;> rw [h]
  have hchanging : s.isChanging = false := by
    unfold Part.isChanging
    rw [Part.change?_of_mode h]
    rfl
  have hreply : s.warmReset.answer src tag .reset .ok [] =
      { s.warmReset with station := { Part.cold.station with sending := some (mgmtReply src tag 12 0 []) } } := by
    rw [Part.answer_eq, Part.warmReset_eq]
    rfl
  have hline : s.warmReset.lines.txTrip = false := by
    rw [Part.warmReset_eq]
    exact htrip
  unfold Part.resetRequest
  rw [if_neg (by simp [hidle, hchanging]), hreply, Part.endReset, if_neg (by simp [hline])]
  exact Part.handPower_of_busy (by simp) 0

theorem exec_reset_taken {src tag : Byte} {s : State} (h : s.part.taking) (htrip : s.part.lines.txTrip = false)
    (hmode : s.part.seq.mode = .stopped ∨ s.part.seq.mode = .halted) :
    exec (.reset src tag) s = .next { s with part := (s.part.warmEnded src tag).closed } := by
  have hnone : (s.part.warmEnded src tag).raised = [] := by
    rw [Part.warmEnded, Part.warmReset_eq]
    rfl
  have htaken : s.part.met.resetRequest src tag = s.part.warmEnded src tag :=
    Part.resetRequest_taken (s := s.part.met) hmode htrip src tag
  rw [exec_reset h, htaken, Part.settle_of_none hnone, Part.drivePins_of_none hnone]

/-- R179: a deadline that lies ahead stays as far ahead. -/
theorem rebase_of_ahead {now d : Uptime} (h : 2147483648 ≤ (now - d).toNat) : rebase now d = d - now := by
  have hahead : due now d = false := decide_eq_false (Nat.not_lt.mpr h)
  rw [rebase, remaining, hahead, if_neg Bool.false_ne_true, BitVec.ofNat_toNat, BitVec.setWidth_eq]

/-- R162, R184: the lines of a closed event. -/
theorem Part.closed_pinsSound (s : Part) : s.closed.PinsSound := by
  constructor
  · simp [Part.closed, Part.faultLine, Part.isHalted]
  · simp [Part.closed, Part.inPatternLamp]

theorem Reading.restart_fresh (isRef : Bool) : Reading.fresh.restart isRef =
    { state := .pending, ratio := if isRef then 10000 else 0, phase := 0, closes := 0, age := 0, late := 0,
      inTol := false } := by
  cases isRef <;> rfl

/-- R4, R178: the write in flight that a warm reset keeps. -/
theorem Part.warmReset_licenceWrite (s : Part) : s.warmReset.tables.licenceWrite =
    s.tables.licenceWrite.map fun w => { w with deadline := rebase s.uptime w.deadline } := by
  rw [Part.warmReset_eq]
  rfl

theorem Part.warmReset_accum (s : Part) (k : Tower) : s.warmReset.corr.accums[k] = Accum.clear := by
  rw [Part.warmReset_eq]
  exact Vector.getElem_replicate _

theorem Part.warmReset_quietRun (s : Part) (k : Tower) : s.warmReset.table.quietRuns[k] = 0 := by
  rw [Part.warmReset_eq]
  exact Vector.getElem_replicate _

theorem Part.warmReset_readings (s : Part) : s.warmReset.table.readings =
    mapAll (Vector.replicate 12 Reading.fresh) fun k r => r.restart (decide (k = s.bank.idleRef)) := by
  rw [Part.warmReset_eq]

/-- R51: the readings of a reset. -/
theorem Part.warmReset_reading (s : Part) (k : Tower) : s.warmReset.table.readings[k] =
    { state := .pending, ratio := if k = s.bank.idleRef then 10000 else 0, phase := 0, closes := 0, age := 0, late := 0,
      inTol := false } := by
  have hfresh : (Vector.replicate 12 Reading.fresh)[k] = Reading.fresh := Vector.getElem_replicate _
  rw [Part.warmReset_readings, mapAll_getElem, hfresh, Reading.restart_fresh]
  simp only [decide_eq_true_eq]

/-- What a warm reset takes over from the part, and what it sets as a cold reset does. -/
theorem Part.warmReset_rest (s : Part) :
    s.warmReset.tables.mem = s.tables.mem ∧ s.warmReset.tables.staged = s.tables.staged ∧ s.warmReset.uptime = 0 ∧
      s.warmReset.lines = s.lines ∧ s.warmReset.held = false ∧ s.warmReset.clock.time = s.clock.time ∧
      s.warmReset.sched = { s.sched with owed := false } ∧ s.warmReset.faults = s.faults.afterWarmReset ∧
      s.warmReset.seq = Part.cold.seq ∧ s.warmReset.elems = Part.cold.elems ∧ s.warmReset.walk = Part.cold.walk ∧
      s.warmReset.trim = Part.cold.trim ∧ s.warmReset.ramp = Part.cold.ramp ∧ s.warmReset.timer = Part.cold.timer ∧
      s.warmReset.store = Part.cold.store ∧ s.warmReset.round = Part.cold.round ∧
      s.warmReset.field = Part.cold.field ∧ s.warmReset.corr.config = s.bank.idleConfig ∧
      s.warmReset.table.anyClipped = false ∧
      s.warmReset.table.quiet = quietUnder s.tables.mem (Vector.replicate 12 0) := by
  rw [Part.warmReset_eq]
  exact ⟨rfl, rfl, rfl, rfl, rfl, rfl, rfl, rfl, rfl, rfl, rfl, rfl, rfl, rfl, rfl, rfl, rfl, rfl, rfl, rfl⟩

/-- Settles O7: the part as the restart leaves it, with the port as the reply leaves it. -/
theorem resetRequestMakesAWarmReset : Obligations.ResetRequestMakesAWarmReset := by
  refine ⟨fun src tag s h hstopped hhalted => ?_, fun src tag s h htrip hmode => ?_⟩
  · exact State.run_event_of_none (op := fun s => (s.linkAlive .station).resetRequest src tag) h
      (p := s.part.stationHeard.replied (mgmtReply src tag 12 14 []))
      (Part.resetRequest_refused (s := s.part.met) (Part.changing_or_inPattern hstopped hhalted) src tag)
  · obtain ⟨hmem, hstaged, huptime, hlines, hheld, htime, hsched, hfaults, hseq, helems, hwalk, htrim, hramp, htimer,
      hstore, hround, hfield, hconfig, hclipped, hquiet⟩ := s.part.warmReset_rest
    have hoverflow := congrArg FaultUnit.overflow hfaults
    have hrecords := congrArg FaultUnit.records hfaults
    have hwrite := s.part.warmReset_licenceWrite
    refine ⟨_, exec_reset_taken h htrip hmode, rfl, hmem, hstaged, ?_, ?_, fun w hw hahead => ?_, huptime, hlines, hheld,
      htime, hsched, hoverflow, hrecords, hseq, helems, hwalk, htrim,
      hramp, htimer, hstore, hround, hfield, rfl, hconfig, s.part.warmReset_accum, s.part.warmReset_reading,
      s.part.warmReset_quietRun, hclipped, (Bool.eq_iff_iff.mp hquiet).trans (quietUnder_zero_iff _),
      Part.closed_pinsSound _⟩
    · exact (congrArg (Option.map LicenceWrite.block) hwrite).trans (Option.map_map ..)
    · exact (congrArg (Option.map LicenceWrite.old) hwrite).trans (Option.map_map ..)
    · rw [hw] at hwrite
      exact (congrArg (Option.map LicenceWrite.deadline) hwrite).trans (congrArg some (rebase_of_ahead hahead))

end Sys2Proof.Machine
end

section
/-! PROOFS. The magnitude and the ratio of a closed window. -/

namespace Sys2Proof.Machine

/-! ### The magnitude (R45) -/

/-- The bits below `2 ^ b` complete a root whose square lies at most `2 ^ b` short of `n`. -/
theorem isqrtFrom_eq_sqrt {n b x : Nat} (hlow : x * x ≤ n) (hhigh : n < (x + 2 ^ b) * (x + 2 ^ b)) :
    isqrtFrom n b x = Nat.sqrt n := by
  induction b generalizing x with
  | zero => exact Nat.eq_sqrt.mpr ⟨hlow, hhigh⟩
  | succ b ih =>
    have hdouble : x + 2 ^ (b + 1) = x + 2 ^ b + 2 ^ b := by rw [pow_succ]; omega
    rw [isqrtFrom]
    split
    next hbit => exact ih hbit (hdouble ▸ hhigh)
    next hbit => exact ih hlow (not_le.mp hbit)

/-- The root has at most half as many bits as its square. -/
theorem lt_sq_of_log2 (n : Nat) : n < 2 ^ (Nat.log2 n / 2 + 1) * 2 ^ (Nat.log2 n / 2 + 1) :=
  calc n < 2 ^ (Nat.log2 n + 1) := Nat.lt_log2_self
    _ ≤ 2 ^ (Nat.log2 n / 2 + 1 + (Nat.log2 n / 2 + 1)) := Nat.pow_le_pow_right (by decide) (by omega)
    _ = _ := pow_add ..

theorem isqrt_eq_sqrt (n : Nat) : isqrt n = Nat.sqrt n :=
  isqrtFrom_eq_sqrt (Nat.zero_le n) (by rw [Nat.zero_add]; exact lt_sq_of_log2 n)

/-- R45: the sum of squares is formed exactly. -/
theorem sumOfSquares_cast (re im : Int) : ((re * re + im * im).toNat : Int) = re * re + im * im :=
  Int.toNat_of_nonneg (add_nonneg (mul_self_nonneg re) (mul_self_nonneg im))

theorem magnitude_bounds (re im : Int) :
    (magnitude re im : Int) * magnitude re im ≤ re * re + im * im ∧
      re * re + im * im < ((magnitude re im : Int) + 1) * (magnitude re im + 1) := by
  rw [magnitude, isqrt_eq_sqrt, ← sumOfSquares_cast]
  exact ⟨by exact_mod_cast Nat.sqrt_le _, by exact_mod_cast Nat.lt_succ_sqrt _⟩

theorem magnitude_eq_zero (re im : Int) : magnitude re im = 0 ↔ re = 0 ∧ im = 0 := by
  rw [magnitude, isqrt_eq_sqrt, Nat.sqrt_eq_zero, ← Int.natCast_eq_zero, sumOfSquares_cast, mul_self_add_mul_self_eq_zero]

/-- A number within the range of an accumulator has a square of at most 78 bits. -/
theorem mul_self_le_of_range {z : Int} (hlow : -549755813888 ≤ z) (hhigh : z ≤ 549755813887) :
    z * z ≤ 549755813888 * 549755813888 :=
  abs_le_iff_mul_self_le.mp (abs_le.mpr ⟨by norm_num; exact hlow, by norm_num; omega⟩)

/-- R43, R45: two sums within their range have a magnitude of at most 40 bits. -/
theorem magnitude_lt {re im : Int} (hre : re * re ≤ 549755813888 * 549755813888)
    (him : im * im ≤ 549755813888 * 549755813888) : magnitude re im < 1099511627776 := by
  rw [magnitude, isqrt_eq_sqrt, Nat.sqrt_lt]
  zify
  rw [sumOfSquares_cast]
  omega

/-! ### The ratio (R47) -/

/-- R47: a quotient rounded to nearest, an exact half up. -/
theorem rounded_bounds (n : Nat) {p : Nat} (hp : 0 < p) :
    2 * ((n + p / 2) / p * p) ≤ 2 * n + p ∧ 2 * n < 2 * ((n + p / 2) / p * p) + p := by
  have hdiv := Nat.div_add_mod' (n + p / 2) p
  have hmod := Nat.mod_lt (n + p / 2) hp
  omega

/-- Settles O19: the root is `Nat.sqrt`, and the quotient is within half of the divisor. -/
theorem magnitudeAndRatioAreExact : Obligations.MagnitudeAndRatioAreExact := by
  refine ⟨fun re im => ?_, fun mag p hp => ⟨rfl, fun hratio => ?_, fun hratio => ?_⟩⟩
  · obtain ⟨hlow, hhigh⟩ := magnitude_bounds re im
    exact ⟨hlow, hhigh, magnitude_eq_zero re im, fun h1 h2 h3 h4 =>
      magnitude_lt (mul_self_le_of_range h1 h2) (mul_self_le_of_range h3 h4)⟩
  · have hquotient : ratioOf mag p = (10000 * mag + p / 2) / p := by
      unfold ratioOf at hratio ⊢
      omega
    rw [hquotient]
    exact rounded_bounds _ hp
  · have hquotient : 65535 ≤ (10000 * mag + p / 2) / p := by
      unfold ratioOf at hratio
      omega
    exact (Nat.mul_le_mul_left 2 (Nat.mul_le_mul_right p hquotient)).trans (rounded_bounds _ hp).1

end Sys2Proof.Machine
end

section
/-! PROOFS. The phase of a closed window. -/

namespace Sys2Proof.Machine

/-! ### The angle of a point, in turns -/

/-- The point as a complex number. -/
def Point.toComplex (z : Point) : ℂ := ⟨z.re, z.im⟩

/-- The point's angle in turns, from 0 on and below 1. -/
noncomputable def Point.turn (z : Point) : ℝ := Int.fract (z.toComplex.arg / (2 * Real.pi))

theorem Point.toComplex_mul (a b : Point) : (a.mul b).toComplex = a.toComplex * b.toComplex := by
  apply Complex.ext <;> simp [Point.toComplex, Point.mul]

theorem Point.toComplex_mul_ne_zero {a b : Point} (ha : a.toComplex ≠ 0) (hb : b.toComplex ≠ 0) :
    (a.mul b).toComplex ≠ 0 := by
  rw [Point.toComplex_mul]
  exact mul_ne_zero ha hb

theorem Point.turn_nonneg (z : Point) : 0 ≤ z.turn := Int.fract_nonneg _

theorem Point.turn_lt_one (z : Point) : z.turn < 1 := Int.fract_lt_one _

theorem Point.arg_div_le_half (z : Point) : z.toComplex.arg / (2 * Real.pi) ≤ 1 / 2 := by
  rw [div_le_iff₀ Real.two_pi_pos]
  linarith [Complex.arg_le_pi z.toComplex]

theorem Point.neg_half_lt_arg_div (z : Point) : -(1 / 2) < z.toComplex.arg / (2 * Real.pi) := by
  rw [lt_div_iff₀ Real.two_pi_pos]
  linarith [Complex.neg_pi_lt_arg z.toComplex]

theorem Point.turn_of_arg_nonneg {z : Point} (h : 0 ≤ z.toComplex.arg) :
    z.turn = z.toComplex.arg / (2 * Real.pi) :=
  Int.fract_eq_self.mpr ⟨div_nonneg h Real.two_pi_pos.le, by linarith [z.arg_div_le_half]⟩

theorem Point.turn_of_arg_neg {z : Point} (h : z.toComplex.arg < 0) :
    z.turn = z.toComplex.arg / (2 * Real.pi) + 1 := by
  have hneg := div_neg_of_neg_of_pos h Real.two_pi_pos
  rw [Point.turn, Int.fract_eq_iff]
  exact ⟨by linarith [z.neg_half_lt_arg_div], by linarith, -1, by push_cast; ring⟩

/-- A point is low where its angle is half a turn or more. -/
theorem Point.low_iff (z : Point) : z.low = true ↔ 1 / 2 ≤ z.turn := by
  have hneg : z.toComplex.arg < 0 ↔ z.im < 0 := by
    rw [Complex.arg_neg_iff]
    exact Int.cast_lt_zero
  have hpi : z.toComplex.arg = Real.pi ↔ z.re < 0 ∧ z.im = 0 := by
    rw [Complex.arg_eq_pi_iff]
    exact and_congr Int.cast_lt_zero Int.cast_eq_zero
  have hlow : z.low = true ↔ z.toComplex.arg < 0 ∨ z.toComplex.arg = Real.pi := by
    rw [hneg, hpi]
    simp [Point.low, and_comm]
  rw [hlow]
  obtain h | h := lt_or_ge z.toComplex.arg 0
  · rw [Point.turn_of_arg_neg h]
    exact iff_of_true (.inl h) (by linarith [z.neg_half_lt_arg_div])
  · rw [Point.turn_of_arg_nonneg h, le_div_iff₀ Real.two_pi_pos, or_iff_right (not_lt.mpr h), eq_comm,
      ← (Complex.arg_le_pi _).ge_iff_eq']
    constructor <;> intro <;> linarith

theorem Point.turn_lt_half {z : Point} (h : z.low = false) : z.turn < 1 / 2 :=
  not_le.mp fun hhalf => Bool.false_ne_true (h.symm.trans (z.low_iff.mpr hhalf))

/-- The angle of a product is the sum of the angles, up to whole turns. -/
theorem Point.turn_mul {a b : Point} (ha : a.toComplex ≠ 0) (hb : b.toComplex ≠ 0) :
    (a.mul b).turn = Int.fract (a.turn + b.turn) := by
  obtain ⟨k, hk⟩ := Real.Angle.angle_eq_iff_two_pi_dvd_sub.mp
    ((Complex.arg_mul_coe_angle ha hb).trans (Real.Angle.coe_add _ _).symm)
  rw [Point.turn, Point.toComplex_mul, Int.fract_eq_fract]
  refine ⟨k + ⌊a.toComplex.arg / (2 * Real.pi)⌋ + ⌊b.toComplex.arg / (2 * Real.pi)⌋, ?_⟩
  have hpi := Real.two_pi_pos.ne'
  have hsum : (a.toComplex * b.toComplex).arg / (2 * Real.pi) =
      a.toComplex.arg / (2 * Real.pi) + b.toComplex.arg / (2 * Real.pi) + k := by
    field_simp
    linarith
  rw [hsum, Point.turn, Point.turn, Int.fract, Int.fract]
  push_cast
  ring

/-- A number of turns between a half and one and a half has passed a whole one where less than a half is left. -/
theorem fract_lt_half_iff {x : ℝ} (hlow : 1 / 2 ≤ x) (hhigh : x < 3 / 2) : Int.fract x < 1 / 2 ↔ 1 ≤ x := by
  obtain h | h := lt_or_ge x 1
  · rw [Int.fract_eq_self.mpr ⟨by linarith, h⟩]
    exact iff_of_false (not_lt.mpr hlow) (not_le.mpr h)
  · have hfract : Int.fract x = x - 1 := Int.fract_eq_iff.mpr ⟨by linarith, by linarith, 1, by push_cast; ring⟩
    rw [hfract]
    exact iff_of_true (by linarith) h

/-- Two angles sum to a whole turn or more where `turns` says so. -/
theorem turns_iff {a b : Point} (ha : a.toComplex ≠ 0) (hb : b.toComplex ≠ 0) :
    turns a b = true ↔ 1 ≤ a.turn + b.turn := by
  have ha0 := a.turn_nonneg
  have ha1 := a.turn_lt_one
  have hb0 := b.turn_nonneg
  have hb1 := b.turn_lt_one
  have hproduct : (!(a.mul b).low) = true ↔ Int.fract (a.turn + b.turn) < 1 / 2 := by
    rw [Bool.not_eq_true', ← Bool.not_eq_true, Point.low_iff, Point.turn_mul ha hb, not_le]
  unfold turns
  cases halow : a.low <;> cases hblow : b.low
  · have := a.turn_lt_half halow
    have := b.turn_lt_half hblow
    exact iff_of_false Bool.false_ne_true (by linarith)
  · have := a.turn_lt_half halow
    have := b.low_iff.mp hblow
    exact hproduct.trans (fract_lt_half_iff (by linarith) (by linarith))
  · have := a.low_iff.mp halow
    have := b.turn_lt_half hblow
    exact hproduct.trans (fract_lt_half_iff (by linarith) (by linarith))
  · have := a.low_iff.mp halow
    have := b.low_iff.mp hblow
    exact iff_of_true rfl (by linarith)

/-! ### The whole turns of a power -/

/-- Whole turns and the rest of two angles together. -/
theorem Point.turn_add {a b : Point} (ha : a.toComplex ≠ 0) (hb : b.toComplex ≠ 0) :
    a.turn + b.turn = one (turns a b) + (a.mul b).turn := by
  have ha0 := a.turn_nonneg
  have ha1 := a.turn_lt_one
  have hb0 := b.turn_nonneg
  have hb1 := b.turn_lt_one
  have hfloor : ⌊a.turn + b.turn⌋ = (one (turns a b) : ℤ) := by
    rw [Int.floor_eq_iff]
    cases h : turns a b
    · have hsum : ¬1 ≤ a.turn + b.turn := fun h' => by simp [(turns_iff ha hb).mpr h'] at h
      simp only [one, Bool.false_eq_true, if_false]
      push_cast
      exact ⟨by linarith, by linarith⟩
    · have hsum := (turns_iff ha hb).mp h
      simp only [one, if_true]
      push_cast
      exact ⟨hsum, by linarith⟩
  rw [Point.turn_mul ha hb, ← Int.floor_add_fract (a.turn + b.turn), hfloor]
  simp

/-- A point's own angle, doubled. -/
theorem turns_self (z : Point) : turns z z = z.low := by
  unfold turns
  cases z.low <;> rfl

/-- The exponent that a list of bits makes of the exponent of the bits before it. -/
def exponentFrom (bits : List Bool) (n : Nat) : Nat := bits.foldl (fun n b => 2 * n + one b) n

theorem exponentFrom_bits36000 : exponentFrom bits36000 1 = 36000 := by decide

/-- Squaring and multiplying keep count: the exponent times the angle is the whole turns counted and the angle of the
power. -/
theorem windFrom_spec {z : Point} (hz : z.toComplex ≠ 0) (bits : List Bool) {w : Point} {t n : Nat}
    (hw : w.toComplex ≠ 0) (h : n * z.turn = t + w.turn) :
    exponentFrom bits n * z.turn = (windFrom z bits w t).2 + (windFrom z bits w t).1.turn := by
  induction bits generalizing w t n with
  | nil => exact h
  | cons b bits ih =>
    have hw2 := Point.toComplex_mul_ne_zero hw hw
    have hsquare : (2 * n : ℝ) * z.turn = (2 * t + one w.low : Nat) + (w.mul w).turn := by
      have hadd := Point.turn_add hw hw
      rw [turns_self] at hadd
      push_cast
      linarith
    rw [windFrom]
    cases b with
    | false => exact ih hw2 (by simpa [one] using hsquare)
    | true =>
      refine ih (n := 2 * n + 1) (Point.toComplex_mul_ne_zero hw2 hz) ?_
      have hadd := Point.turn_add hw2 hz
      push_cast at hsquare ⊢
      linarith

/-- R48: the count of whole turns, with the rest rounded to nearest, is the angle in centidegrees. -/
theorem windCentidegrees_spec {z : Point} (hz : z.toComplex ≠ 0) :
    |36000 * z.turn - windCentidegrees z| ≤ 1 / 2 := by
  have hwind := windFrom_spec hz bits36000 (t := 0) (n := 1) hz (by simp)
  rw [exponentFrom_bits36000] at hwind
  have h0 := (windFrom z bits36000 z 0).1.turn_nonneg
  have h1 := (windFrom z bits36000 z 0).1.turn_lt_one
  have hcount : windCentidegrees z = (windFrom z bits36000 z 0).2 + one (windFrom z bits36000 z 0).1.low := rfl
  rw [hcount, abs_le]
  cases h : (windFrom z bits36000 z 0).1.low
  · have hhalf := Point.turn_lt_half h
    simp only [one, Bool.false_eq_true, if_false]
    push_cast at hwind ⊢
    constructor <;> linarith
  · have hhalf := (Point.low_iff _).mp h
    simp only [one, if_true]
    push_cast at hwind ⊢
    constructor <;> linarith

theorem windCentidegrees_le {z : Point} (hz : z.toComplex ≠ 0) : windCentidegrees z ≤ 36000 := by
  have hspec := (abs_le.mp (windCentidegrees_spec hz)).1
  have hturn := z.turn_lt_one
  have hlt : (windCentidegrees z : ℝ) < 36001 := by linarith
  exact Nat.lt_succ_iff.mp (by exact_mod_cast hlt)

/-! ### The phase (R48) -/

/-- Dividing the parts by their greatest common divisor leaves the angle, and the point other than the origin. -/
theorem Point.reduced_spec (z : Point) :
    ∃ g : ℝ, 0 < g ∧ z.toComplex = g * z.reduced.toComplex := by
  unfold Point.reduced
  dsimp only
  split
  · exact ⟨1, one_pos, by simp⟩
  next h =>
    refine ⟨Int.gcd z.re z.im, by exact_mod_cast (by omega : 0 < Int.gcd z.re z.im), ?_⟩
    have hre := Int.mul_ediv_cancel' (Int.gcd_dvd_left z.re z.im)
    have him := Int.mul_ediv_cancel' (Int.gcd_dvd_right z.re z.im)
    apply Complex.ext
    · simpa [Point.toComplex] using (by exact_mod_cast hre.symm : (z.re : ℝ) = _)
    · simpa [Point.toComplex] using (by exact_mod_cast him.symm : (z.im : ℝ) = _)

theorem Point.toComplex_ne_zero {re im : Int} (h : ¬(re = 0 ∧ im = 0)) : Point.toComplex ⟨re, im⟩ ≠ 0 := by
  intro hzero
  refine h ⟨?_, ?_⟩
  · exact Int.cast_eq_zero.mp (congrArg Complex.re hzero)
  · exact Int.cast_eq_zero.mp (congrArg Complex.im hzero)

/-- The angle in centidegrees, up to whole turns. -/
theorem Point.centidegrees_eq (z : Point) :
    18000 / Real.pi * z.toComplex.arg = 36000 * z.turn + 36000 * (⌊z.toComplex.arg / (2 * Real.pi)⌋ : ℝ) := by
  have hpi := Real.pi_ne_zero
  rw [← mul_add, Point.turn, Int.fract_add_floor]
  field_simp
  ring

theorem Point.turn_reduced (z : Point) : z.reduced.turn = z.turn := by
  obtain ⟨g, hg, hz⟩ := z.reduced_spec
  rw [Point.turn, Point.turn, hz, Complex.arg_real_mul _ hg]

theorem Point.reduced_ne_zero {z : Point} (hz : z.toComplex ≠ 0) : z.reduced.toComplex ≠ 0 := by
  obtain ⟨g, _, hg⟩ := z.reduced_spec
  exact fun hzero => hz (by rw [hg, hzero, mul_zero])

/-- R48: the phase of sums that are not both 0 is their count of centidegrees, less a whole turn from 18000 on. -/
theorem phaseOf_spec {re im : Int} (h : ¬(re = 0 ∧ im = 0)) :
    ∃ k : Int, phaseOf re im = windCentidegrees (Point.reduced ⟨re, im⟩) - 36000 * k ∧
      -18000 ≤ phaseOf re im ∧ phaseOf re im ≤ 17999 := by
  have hle := windCentidegrees_le (Point.reduced_ne_zero (Point.toComplex_ne_zero h))
  unfold phaseOf
  rw [if_neg h]
  dsimp only
  split
  · exact ⟨0, by omega, by omega, by omega⟩
  · exact ⟨1, by omega, by omega, by omega⟩

/-- Settles O20: the powers of the reduced sums turn once for each centidegree of their angle. -/
theorem phaseIsTheNearestCentidegree : Obligations.PhaseIsTheNearestCentidegree := by
  intro re im
  by_cases hzero : re = 0 ∧ im = 0
  · have hphase : phaseOf re im = 0 := if_pos hzero
    rw [hphase]
    exact ⟨by decide, by decide, fun _ => rfl, fun h => absurd hzero (by tauto)⟩
  · obtain ⟨k, hphase, hlow, hhigh⟩ := phaseOf_spec hzero
    refine ⟨hlow, hhigh, fun h => absurd h hzero, fun _ => ?_⟩
    have hwind := windCentidegrees_spec (Point.reduced_ne_zero (Point.toComplex_ne_zero hzero))
    have hangle := Point.centidegrees_eq ⟨re, im⟩
    rw [Point.turn_reduced] at hwind
    refine ⟨⌊(Point.toComplex ⟨re, im⟩).arg / (2 * Real.pi)⌋ + k, le_of_eq_of_le (congrArg abs ?_) hwind⟩
    rw [hphase]
    refine (congrArg (· - _ - _) hangle).trans ?_
    push_cast
    ring

end Sys2Proof.Machine
end

section
/-! PROOFS. READ_READINGS and READ_FAULTS. -/

namespace Sys2Proof.Machine

/-! ### Fields of a fixed width -/

/-- R185: what a 2-byte field carries, high byte first. -/
theorem byte2_value (n : Nat) : 256 * (BitVec.ofNat 8 (n / 256)).toNat + (BitVec.ofNat 8 n).toNat = n % 65536 := by
  rw [BitVec.toNat_ofNat, BitVec.toNat_ofNat]
  omega

theorem byte2s_value (z : Int) :
    (256 * (BitVec.ofNat 8 ((z % 65536).toNat / 256)).toNat + (BitVec.ofNat 8 (z % 65536).toNat).toNat : Int) =
      z % 65536 := by
  have hvalue := byte2_value (z % 65536).toNat
  have hrange := Int.emod_nonneg z (show (65536 : Int) ≠ 0 by decide)
  have hlt := Int.emod_lt_of_pos z (show (0 : Int) < 65536 by decide)
  omega

section
variable {α β : Type} {f : α → List β} {n : Nat}

theorem length_flatMap_of_width (hf : ∀ a, (f a).length = n) (l : List α) : (l.flatMap f).length = n * l.length := by
  induction l with
  | nil => rfl
  | cons a l ih => rw [List.flatMap_cons, List.length_append, hf, ih, List.length_cons]; ring

/-- Byte j of record i, where each record has n bytes. -/
theorem getD_flatMap_of_width (hf : ∀ a, (f a).length = n) {l : List α} {i j : Nat} (hj : j < n) {a : α}
    (ha : l[i]? = some a) (d : β) : (l.flatMap f).getD (n * i + j) d = (f a).getD j d := by
  induction l generalizing i with
  | nil => simp at ha
  | cons b l ih =>
    rw [List.flatMap_cons]
    cases i with
    | zero =>
      obtain rfl : b = a := by simpa using ha
      rw [Nat.mul_zero, Nat.zero_add]
      exact List.getD_append _ _ _ _ ((hf b).symm ▸ hj)
    | succ i =>
      have hpast : n * (i + 1) + j = (f b).length + (n * i + j) := by rw [hf]; ring
      rw [hpast, List.getD_append_right _ _ _ _ (Nat.le_add_right _ _), Nat.add_sub_cancel_left]
      exact ih (by simpa using ha)

end

/-! ### READ_READINGS (R51, R190) -/

/-- R190: the bytes before the first tower's record. -/
def Part.readingHeader (s : Part) : List Byte :=
  byte2 s.round.counter.toNat ++ byte1 s.round.last.code ++ byteTowers s.round.failing

theorem Part.readingBytes_eq (s : Part) : s.readingBytes =
    s.readingHeader ++ towers.flatMap fun t => s.table.readings[t].bytes s.table.quietRuns[t] := rfl

theorem Reading.bytes_length (r : Reading) (quietRun : Nat) : (r.bytes quietRun).length = 13 := rfl

theorem Part.readingBytes_length (s : Part) : s.readingBytes.length = 161 := by
  rw [Part.readingBytes_eq, List.length_append, length_flatMap_of_width fun _ => Reading.bytes_length _ _]
  rfl

/-- R190: byte j of tower k's record. -/
theorem Part.readingBytes_getD (s : Part) (k : Tower) {j : Nat} (hj : j < 13) :
    s.readingBytes.getD (5 + 13 * k.val + j) 0 = (s.table.readings[k].bytes s.table.quietRuns[k]).getD j 0 := by
  have hpast : 5 + 13 * k.val + j = s.readingHeader.length + (13 * k.val + j) := Nat.add_assoc ..
  have hk : towers[k.val]? = some k := by simp [towers]
  rw [Part.readingBytes_eq, hpast, List.getD_append_right _ _ _ _ (Nat.le_add_right _ _), Nat.add_sub_cancel_left]
  exact getD_flatMap_of_width (fun _ => Reading.bytes_length _ _) hj hk 0

theorem exec_readReadings {src tag : Byte} {s : State} (h : s.part.taking) :
    exec (.readReadings src tag) s = .next
      { s with part := s.part.answered (mgmtReply src tag 9 0 s.part.readingBytes) } :=
  State.run_event_of_none (op := fun s => (s.linkAlive .station).readReadings src tag) h (Part.answer_eq ..)

/-- R190: the fields of a tower's record. -/
theorem Part.reading_reported (s : Part) (k : Tower) :
    let r := s.table.readings[k]
    let b := 5 + 13 * k.val
    s.readingBytes.getD b 0 = BitVec.ofNat 8 r.state.code ∧
      256 * (s.readingBytes.getD (b + 1) 0).toNat + (s.readingBytes.getD (b + 2) 0).toNat = r.ratio % 65536 ∧
      (256 * (s.readingBytes.getD (b + 3) 0).toNat + (s.readingBytes.getD (b + 4) 0).toNat : Int) = r.phase % 65536 ∧
      256 * (s.readingBytes.getD (b + 5) 0).toNat + (s.readingBytes.getD (b + 6) 0).toNat = r.closes.toNat ∧
      s.readingBytes.getD (b + 11) 0 = (if r.inTol then 1 else 0) ∧
      (s.readingBytes.getD (b + 12) 0).toNat = s.table.quietRuns[k] % 256 := by
  have hbyte := fun (j : Nat) (hj : j < 13) => s.readingBytes_getD k hj
  intro r b
  refine ⟨hbyte 0 (by decide), ?_, ?_, ?_, hbyte 11 (by decide), ?_⟩
  · rw [hbyte 1 (by decide), hbyte 2 (by decide)]
    exact byte2_value _
  · rw [hbyte 3 (by decide), hbyte 4 (by decide)]
    exact byte2s_value _
  · rw [hbyte 5 (by decide), hbyte 6 (by decide)]
    exact (byte2_value _).trans (Nat.mod_eq_of_lt r.closes.isLt)
  · rw [hbyte 12 (by decide)]
    exact BitVec.toNat_ofNat _ _

/-! ### READ_FAULTS (R176, R190) -/

theorem bytePat_length (p : Option Pat) : (bytePat p).length = 1 := by
  cases p <;> rfl

theorem FaultObject.bytes_length (o : FaultObject) (u : Byte) : (o.bytes u).length = 2 := by
  cases o <;> rfl

/-- R190: the bytes of a record between its class and its repeat count. -/
def FaultRecord.inner (r : FaultRecord) (unstated : Nat → Byte) : List Byte :=
  r.object.bytes (unstated 0) ++ byte1 r.situation.stateCode ++ byte1 r.situation.phaseCode ++
    (match r.pats with
      | some (f, t) => bytePat f ++ bytePat t
      | none => [254, 254]) ++
    byte4 r.first.toNat ++ byte4 r.last.toNat ++
    (match r.clock with
      | some c => c.bytes
      | none => [0, 0, unstated 1, unstated 2, unstated 3, unstated 4, unstated 5])

theorem FaultRecord.bytes_eq (r : FaultRecord) (u : Nat → Byte) : r.bytes u =
    [BitVec.ofNat 8 r.kind.code, BitVec.ofNat 8 r.cls.code] ++
      (r.inner u ++ [BitVec.ofNat 8 r.repeats, if !r.active then 1 else 0]) := by
  simp only [FaultRecord.bytes, FaultRecord.inner, byte1, byteFlag, List.append_assoc, List.cons_append, List.nil_append]
    <;> rfl

theorem FaultRecord.inner_length (r : FaultRecord) (u : Nat → Byte) : (r.inner u).length = 21 := by
  obtain ⟨_, _, object, _, pats, _, _, clock, _, _⟩ := r
  have hpats : (match pats with
      | some (f, t) => bytePat f ++ bytePat t
      | none => [254, 254]).length = 2 := by
    rcases pats with _ | ⟨f, t⟩
    · rfl
    · rw [List.length_append, bytePat_length, bytePat_length]
  simp only [FaultRecord.inner, List.length_append, FaultObject.bytes_length, hpats]
  cases clock <;> rfl

theorem FaultRecord.bytes_length (r : FaultRecord) (u : Nat → Byte) : (r.bytes u).length = 25 := by
  rw [FaultRecord.bytes_eq, List.length_append, List.length_append, FaultRecord.inner_length]
  rfl

theorem FaultKind.code_byte (k : FaultKind) : (BitVec.ofNat 8 k.code).toNat = k.code := by cases k <;> rfl

theorem FaultClass.code_byte (cls : FaultClass) : (BitVec.ofNat 8 cls.code).toNat = cls.code := by cases cls <;> rfl

/-- R190: the fields of a record at its ends. -/
theorem FaultRecord.bytes_fields (r : FaultRecord) (u : Nat → Byte) :
    ((r.bytes u).getD 0 0).toNat = r.kind.code ∧ ((r.bytes u).getD 1 0).toNat = r.cls.code ∧
      ((r.bytes u).getD 23 0).toNat = r.repeats % 256 ∧ (r.bytes u).getD 24 0 = if r.active then 0 else 1 := by
  have hend : ∀ j, (r.bytes u).getD (23 + j) 0 = [BitVec.ofNat 8 r.repeats, if !r.active then 1 else 0].getD j 0 := by
    intro j
    have hpast : 21 + j = (r.inner u).length + j := by rw [FaultRecord.inner_length]
    rw [FaultRecord.bytes_eq, List.getD_append_right _ _ _ _ (by simp; omega), List.length_cons, List.length_singleton,
      show 23 + j - (1 + 1) = 21 + j by omega, hpast, List.getD_append_right _ _ _ _ (Nat.le_add_right _ _),
      Nat.add_sub_cancel_left]
  refine ⟨?_, ?_, ?_, ?_⟩
  · rw [FaultRecord.bytes_eq]
    exact r.kind.code_byte
  · rw [FaultRecord.bytes_eq]
    exact r.cls.code_byte
  · rw [hend 0]
    exact BitVec.toNat_ofNat _ _
  · rw [hend 1]
    cases r.active <;> rfl

/-- R190: the records of a reply stand one after another. -/
theorem Part.recordBytes_eq (s : Part) (k : Nat) (l : List FaultRecord) : s.recordBytes k l =
    (l.zipIdx k).flatMap fun x => x.1.bytes fun j => s.freeByte (8 * x.2 + j) := by
  induction l generalizing k with
  | nil => rfl
  | cons r l ih => rw [Part.recordBytes, ih, List.zipIdx_cons, List.flatMap_cons]

theorem Part.recordBytes_length (s : Part) (l : List FaultRecord) : (s.recordBytes 0 l).length = 25 * l.length := by
  rw [Part.recordBytes_eq, length_flatMap_of_width fun _ => FaultRecord.bytes_length _ _, List.length_zipIdx]

/-- R176, R190: byte j of the record that stands i places after the start index. -/
theorem Part.faultBytes_getD (s : Part) {start i j : Nat} {r : FaultRecord} (hi : i < 4) (hj : j < 25)
    (hr : s.faults.records[start + i]? = some r) :
    (s.faultBytes start).getD (2 + (25 * i + j)) 0 = (r.bytes fun j => s.freeByte (8 * i + j)).getD j 0 := by
  have hslice : ((s.faults.slice start).zipIdx)[i]? = some (r, i) := by
    simp [FaultUnit.slice, hi, hr]
  have hrecord := getD_flatMap_of_width (f := fun x : FaultRecord × Nat => x.1.bytes fun j => s.freeByte (8 * x.2 + j))
    (fun _ => FaultRecord.bytes_length _ _) hj hslice 0
  rw [← Part.recordBytes_eq] at hrecord
  rw [← hrecord, Part.faultBytes, List.getD_append_right _ _ _ _ (Nat.le_add_right 2 _)]
  exact congrArg (List.getD _ · 0) (Nat.add_sub_cancel_left ..)

theorem Part.faultBytes_length (s : Part) (start : Nat) :
    (s.faultBytes start).length = 2 + 25 * min 4 (s.faults.records.length - start) := by
  rw [Part.faultBytes, List.length_append, Part.recordBytes_length, FaultUnit.slice, List.length_take, List.length_drop]
  rfl

theorem Part.faultBytes_congr {s t : Part} (hfaults : t.faults = s.faults) (hfree : t.free = s.free) (start : Nat) :
    t.faultBytes start = s.faultBytes start := by
  simp only [Part.faultBytes, Part.recordBytes_eq, Part.freeByte, hfaults, hfree]

theorem exec_readFaults {src tag start : Byte} {s : State} (h : s.part.taking) :
    exec (.readFaults src tag start) s = .next
      { s with
        part := ({ s.part with free := s.part.free + 1 } : Part).answered
          (mgmtReply src tag 10 0 (s.part.faultBytes start.toNat)) } := by
  refine State.run_event_of_none (op := fun s => (s.linkAlive .station).readFaults src tag start) h ?_
  have hdata : s.part.met.faultBytes start.toNat = s.part.faultBytes start.toNat :=
    Part.faultBytes_congr (s := s.part) (t := s.part.met) rfl rfl _
  rw [← hdata]
  exact congrArg Part.nextFree (Part.answer_eq ..)

/-- Settles O33: each field stands at its offset in a record of a fixed width, and each request is only answered. -/
theorem readingAndFaultListsAreReported : Obligations.ReadingAndFaultListsAreReported := by
  refine ⟨fun src tag s h => ?_, fun src tag start s h => ?_⟩
  · refine ⟨s.part.readingBytes, s.part.readingBytes_length,
      (byte2_value _).trans (Nat.mod_eq_of_lt s.part.round.counter.isLt), ?_, fun k => ?_, exec_readReadings h⟩
    · show BitVec.ofNat 8 s.part.round.last.code = _
      cases s.part.round.last <;> rfl
    · obtain ⟨hstate, hfields⟩ := s.part.reading_reported k
      refine ⟨hstate.trans ?_, hfields⟩
      cases s.part.table.readings[k].state <;> rfl
  · refine ⟨s.part.faultBytes start.toNat, s.part.faultBytes_length _, rfl, BitVec.toNat_ofNat _ _,
      fun i r hi hr => ?_, exec_readFaults h⟩
    obtain ⟨hkind, hcls, hrepeats, hactive⟩ := r.bytes_fields fun j => s.part.freeByte (8 * i + j)
    have hbyte := fun (j : Nat) (hj : j < 25) => s.part.faultBytes_getD hi hj hr
    have hplace : ∀ j, 2 + j + 25 * i = 2 + (25 * i + j) := fun j => by omega
    rw [show 2 + 25 * i = 2 + 0 + 25 * i from rfl, show 3 + 25 * i = 2 + 1 + 25 * i from rfl,
      show 25 + 25 * i = 2 + 23 + 25 * i from rfl, show 26 + 25 * i = 2 + 24 + 25 * i from rfl, hplace, hplace, hplace,
      hplace, hbyte 0 (by decide), hbyte 1 (by decide), hbyte 23 (by decide), hbyte 24 (by decide)]
    exact ⟨hkind, hcls, hrepeats, hactive⟩

end Sys2Proof.Machine
end

section
/-! SUPPORT. What a round that completes, a window that closes and the end of an event leave of a tower's window, where the
part is STOPPED or HALTED. -/

namespace Sys2Proof.Machine

/-! ### The Reading Table at rest -/

theorem Part.stationKick_eq (s : Part) : ∃ z, s.stationKick = s.setStation z := by
  unfold Part.stationKick
  split
  · unfold Part.stationChoice
    repeat' split
    all_goals exact ⟨_, rfl⟩
  · exact ⟨_, rfl⟩

theorem Part.handMonitor_eq (s : Part) (f : Frame) : ∃ z, s.handMonitor f = s.setStation z := by
  unfold Part.handMonitor
  split
  · obtain ⟨z, hz⟩ := (s.setStation { s.station with monitor := some f }).stationKick_eq
    exact ⟨z, hz⟩
  · exact ⟨_, rfl⟩

theorem Part.endRecords_table (s : Part) (p : FaultRecord → Bool) : (s.endRecords p).table = s.table := by
  rw [Part.endRecords_eq]
  rfl

theorem Part.raiseEach_table (k : FaultKind) (cls : FaultClass) (os : List FaultObject) (s : Part) :
    (s.raiseEach k cls os).table = s.table := by
  induction os generalizing s with
  | nil => rfl
  | cons o os ih => exact ih (s.raise k o cls)

/-- R93: a halt leaves the readings. -/
theorem Part.halt_table (s : Part) : s.halt.table = s.table := by
  have hslot : s.emptySlot.table = s.table := by
    unfold Part.emptySlot
    split <;> rfl
  have hzero : ∀ p : Part, p.forceZero.stopEngines.table = p.table := fun p => by
    obtain ⟨z, hz⟩ := Part.stationKick_eq ((p.setRamp p.ramp.silenced).setStation { p.station with power := some 0 })
    have hforce : p.forceZero = _ := hz
    rw [hforce]
    rfl
  unfold Part.halt
  split
  · rfl
  · exact (hzero _).trans ((Part.endRecords_table _ _).trans hslot)

/-- R157 to R160: the reaction of an event at rest is a halt, or nothing. -/
theorem Part.reactOnce_cases {s : Part} (h : s.AtRest) :
    s.reactOnce = (s.setRaised []).halt ∨ s.reactOnce = s.setRaised [] := by
  have hchange : (s.setRaised []).change? = none := h.change?
  unfold Part.reactOnce
  dsimp only
  split
  · exact .inl rfl
  · unfold Part.turnBack
    rw [hchange]
    exact .inr rfl
  · unfold Part.degrade
    rw [Part.setRaised_seq]
    obtain h | h := h <;> rw [h] <;> exact .inr rfl
  · exact .inr rfl

theorem Part.react_table (n : Nat) {s : Part} (h : s.AtRest) : (Part.react n s).table = s.table := by
  induction n generalizing s with
  | zero => rfl
  | succ n ih =>
    rw [Part.react]
    split
    · rfl
    · refine (ih (Part.reactOnce_rest h).2).trans ?_
      obtain hreact | hreact := Part.reactOnce_cases h <;> rw [hreact]
      · exact Part.halt_table _
      · rfl

theorem Part.evaluateQuiet_anyClipped {s : Part} (h : s.AtRest) :
    s.evaluateQuiet.table.anyClipped = s.table.anyClipped := by
  obtain hquiet | hquiet := Part.evaluateQuiet_of_no_change h.change? <;> rw [hquiet]
  · rfl
  · rw [Part.raiseRfInSwitch, Part.raiseEach_table]
    rfl

/-! ### The window of one tower -/

/-- The part `t`, at rest, has tower k's window and reading, but for its in-tolerance flag, as they are in `s`. -/
structure Part.Spares (k : Tower) (s t : Part) : Prop where
  rest : t.AtRest
  tables : t.tables = s.tables
  config : t.corr.config = s.corr.config
  accum : t.corr.accums[k] = s.corr.accums[k]
  reading : t.table.readings[k] = { s.table.readings[k] with inTol := t.table.readings[k].inTol }
  uninstalled : s.bank.installed k = false → t.table.readings[k] = s.table.readings[k]
  clipped : s.table.anyClipped = true → t.table.anyClipped = true

theorem Part.Spares.bank {k : Tower} {s t : Part} (h : s.Spares k t) : t.bank = s.bank :=
  congrArg (fun x : Tables => activeBank x.mem) h.tables

theorem Part.Spares.trans {k : Tower} {s t u : Part} (h : s.Spares k t) (h' : t.Spares k u) : s.Spares k u where
  rest := h'.rest
  tables := h'.tables.trans h.tables
  config := h'.config.trans h.config
  accum := h'.accum.trans h.accum
  reading := by rw [h'.reading, h.reading]
  uninstalled hk := (h'.uninstalled (h.bank ▸ hk)).trans (h.uninstalled hk)
  clipped hc := h'.clipped (h.clipped hc)

theorem Part.AtRest.of_mode {s t : Part} (h : s.AtRest) (hmode : t.seq.mode = s.seq.mode) : t.AtRest := by
  unfold Part.AtRest
  rw [hmode]
  exact h

theorem Part.Spares.of_same {k : Tower} {s t : Part} (h : s.AtRest) (hmode : t.seq.mode = s.seq.mode)
    (htables : t.tables = s.tables)
    (hcorr : t.corr = s.corr) (hreadings : t.table.readings = s.table.readings)
    (hclipped : t.table.anyClipped = s.table.anyClipped) : s.Spares k t where
  rest := h.of_mode hmode
  tables := htables
  config := by rw [hcorr]
  accum := by rw [hcorr]
  reading := by rw [hreadings]
  uninstalled _ := by rw [hreadings]
  clipped hc := hclipped.trans hc

theorem Part.Spares.of_measured {k : Tower} {s t : Part} (hrest : t.AtRest) (hmeasured : t.measured = s.measured)
    (hclipped : t.table.anyClipped = s.table.anyClipped) : s.Spares k t := by
  obtain ⟨hcorr, hreadings, _, _, htables, _⟩ := Part.of_measured hmeasured
  exact ⟨hrest, htables, by rw [hcorr], by rw [hcorr], by rw [hreadings], fun _ => by rw [hreadings], hclipped.trans⟩

section
variable {s : Part} (h : s.AtRest) (k : Tower)
include h

theorem Part.Spares.refl : s.Spares k s := .of_same h rfl rfl rfl rfl rfl

theorem Part.settle_spares : s.Spares k s.settle :=
  .of_measured (Part.settle_rest h).2 (Part.settle_rest h).1 (congrArg ReadingTable.anyClipped (Part.react_table 4 h))

theorem Part.evaluateQuiet_spares : s.Spares k s.evaluateQuiet :=
  .of_measured (Part.evaluateQuiet_rest h).2 (Part.evaluateQuiet_rest h).1 (Part.evaluateQuiet_anyClipped h)

theorem Part.setTable_evaluateQuiet_spares {x : ReadingTable} (hreadings : x.readings = s.table.readings)
    (hclipped : x.anyClipped = s.table.anyClipped) : s.Spares k (s.setTable x).evaluateQuiet :=
  Part.Spares.trans (.of_same (t := s.setTable x) h rfl rfl rfl hreadings hclipped)
    (Part.evaluateQuiet_spares (s := s.setTable x) (h.of_mode rfl) k)

theorem Part.weigh_spares (level : Nat) (j : Tower) (x : Block) : s.Spares k (s.weigh level j x) := by
  unfold Part.weigh
  dsimp only
  split
  · exact Part.setTable_evaluateQuiet_spares h k rfl rfl
  · exact Part.Spares.refl h k

theorem Part.linkAlive_field_spares : s.Spares k (s.linkAlive .field) := by
  obtain ⟨hmeasured, hmode⟩ := s.linkAlive_field_rest
  refine .of_measured (h.of_mode hmode) hmeasured ?_
  unfold Part.linkAlive
  dsimp only
  split
  · rfl
  · exact congrArg ReadingTable.anyClipped (Part.endRecords_table _ _)

theorem Part.queueStation_spares (o : Port) (f : Frame) : s.Spares k (s.queueStation o f) := by
  unfold Part.queueStation
  split
  · obtain ⟨z, hz⟩ := Part.stationKick_eq
      (s.setStation { s.station with queue := s.station.queue ++ [{ frame := f, rampSince := false }] })
    rw [hz]
    exact .of_same h rfl rfl rfl rfl rfl
  · cases o <;> exact .of_same h rfl rfl rfl rfl rfl

/-! ### Rounds -/

/-- R66, R68: no verdict has an effect on a sequencer at rest. -/
theorem Part.sequencerVerdict_rest (v : Verdict) : s.sequencerVerdict v = s := by
  unfold Part.sequencerVerdict
  obtain h | h := h <;> rw [h]

theorem Part.trimVerdict_rest (v : Verdict) : s.trimVerdict v = s := by
  unfold Part.trimVerdict
  obtain h | h := h <;> rw [h]

/-- R119, R125: no pattern is trimmed at rest. -/
theorem Part.trimClose_rest (t : Tower) : s.trimClose t = s := by
  have hnone : s.trimPattern = none := by
    unfold Part.trimPattern
    obtain h | h := h <;> rw [h]
  rw [Part.trimClose, hnone]

omit h in
theorem Part.judge_rest (s : Part) : s.judge.seq.mode = s.seq.mode ∧ s.judge.tables = s.tables ∧ s.judge.corr = s.corr ∧
    s.judge.table.anyClipped = s.table.anyClipped := ⟨rfl, rfl, rfl, rfl⟩

/-- R66: a round that completes at rest gives its verdict and its MONITOR frame. -/
theorem Part.completeRound_rest : ∃ z, s.completeRound = (s.judge.setStation z).abandonRound := by
  obtain ⟨z, hz⟩ := s.judge.handMonitor_eq s.judge.monitorFrame
  have hrest : (s.judge.setStation z).AtRest := h.of_mode s.judge_rest.1
  refine ⟨z, ?_⟩
  unfold Part.completeRound
  dsimp only
  rw [hz, Part.sequencerVerdict_rest hrest, Part.trimVerdict_rest hrest]

omit h in
/-- R66: a judgement sets the in-tolerance flags of the installed towers, and nothing else of the readings. -/
theorem Part.judge_reading (s : Part) :
    s.judge.table.readings[k] = { s.table.readings[k] with inTol := s.judge.table.readings[k].inTol } ∧
      (s.bank.installed k = false → s.judge.table.readings[k] = s.table.readings[k]) := by
  unfold Part.judge
  simp only [Part.setRound_table, Part.setTable_table, mapAll_getElem]
  constructor
  · split <;> rfl
  · intro hk
    rw [hk]
    rfl

theorem Part.judge_spares : s.Spares k s.judge := by
  obtain ⟨hmode, htables, hcorr, hclipped⟩ := s.judge_rest
  obtain ⟨hreading, huninstalled⟩ := s.judge_reading k
  exact ⟨h.of_mode hmode, htables, by rw [hcorr], by rw [hcorr], hreading, huninstalled, hclipped.trans⟩

theorem Part.testRound_spares : s.Spares k s.testRound := by
  unfold Part.testRound
  split
  · obtain ⟨z, hz⟩ := Part.completeRound_rest h
    rw [hz]
    exact (Part.judge_spares h k).trans (.of_same (h.of_mode s.judge_rest.1) rfl rfl rfl rfl rfl)
  · exact Part.Spares.refl h k

end

/-! ### Window closes (R44) -/

/-- What the Fault Unit leaves of the part, as the windows see it. -/
structure Part.Recorded (s t : Part) : Prop where
  mode : t.seq.mode = s.seq.mode
  tables : t.tables = s.tables
  corr : t.corr = s.corr
  table : t.table = s.table

theorem Part.Recorded.trans {s t u : Part} (h : s.Recorded t) (h' : t.Recorded u) : s.Recorded u :=
  ⟨h'.mode.trans h.mode, h'.tables.trans h.tables, h'.corr.trans h.corr, h'.table.trans h.table⟩

theorem Part.raise_if_recorded (s : Part) (b : Prop) [Decidable b] (k : FaultKind) (o : FaultObject) (cls : FaultClass) :
    s.Recorded (if b then s.raise k o cls else s) := by
  split <;> exact ⟨rfl, rfl, rfl, rfl⟩

theorem Part.endCondition_if_recorded (s : Part) (b : Prop) [Decidable b] (k : FaultKind) (o : FaultObject) :
    s.Recorded (if b then s.endCondition k o else s) := by
  split
  · refine ⟨Part.endRecords_mode _ _, ?_, ?_, Part.endRecords_table _ _⟩ <;>
      rw [Part.endCondition, Part.endRecords_eq] <;> rfl
  · exact ⟨rfl, rfl, rfl, rfl⟩

/-- R44, steps 1 and 2: the reading that tower j's window gives as it closes with the sums of `a`. -/
def Part.closing (s : Part) (j : Tower) (a : Accum) : Reading :=
  s.table.readings[j].close a s.bank.signalFloor (decide (j = s.corr.config.refTower))

theorem Part.closing_congr {s t : Part} (h : t.measured = s.measured) (j : Tower) (a : Accum) :
    t.closing j a = s.closing j a := by
  obtain ⟨hcorr, hreadings, _, _, htables, _⟩ := Part.of_measured h
  have hbank : t.bank = s.bank := congrArg (fun x : Tables => activeBank x.mem) htables
  rw [Part.closing, Part.closing, hcorr, hreadings, hbank]

/-- R49: the part with that reading in the Reading Table. -/
def Part.windowRead (s : Part) (j : Tower) : Part :=
  s.setTable
    { s.table with
      readings := setAt s.table.readings j (s.closing j s.corr.accums[j])
      anyClipped := s.table.anyClipped || (s.closing j s.corr.accums[j]).state == .clipped }

/-- R44: a window close writes the reading, tells the Fault Unit, clears the set, and then tells the engines. -/
theorem Part.closeWindow_eq (s : Part) (j : Tower) : ∃ w : Part, (s.windowRead j).Recorded w ∧
    s.closeWindow j =
      (((w.setCorr { w.corr with accums := setAt w.corr.accums j Accum.clear }).trimClose j).cover j).testRound :=
  ⟨_, (Part.raise_if_recorded _ ((s.closing j s.corr.accums[j]).state = .clipped) .clippedWindow (.tower j) .d).trans
    (Part.endCondition_if_recorded _ (s.table.readings[j].state = .stale) .towerStale (.tower j)), rfl⟩

/-- R44: the window of tower k is closed at rest, with a reading whose in-tolerance flag a round may have set since. -/
structure Part.Closed (s : Part) (k : Tower) (r : Reading) : Prop where
  rest : s.AtRest
  accum : s.corr.accums[k] = Accum.clear
  reading : s.table.readings[k] = { r with inTol := s.table.readings[k].inTol }
  clipped : r.state = .clipped → s.table.anyClipped = true

theorem Part.Spares.closed {k : Tower} {s t : Part} (h : s.Spares k t) {r : Reading} (hs : s.Closed k r) :
    t.Closed k r where
  rest := h.rest
  accum := h.accum.trans hs.accum
  reading := by rw [h.reading, hs.reading]
  clipped hr := h.clipped (hs.clipped hr)

section
variable {s : Part} (h : s.AtRest)
include h

/-- R44, steps 5 and 6: what follows the clearing of the set. -/
theorem Part.coverTest_spares (j k : Tower) : s.Spares k ((s.trimClose j).cover j).testRound := by
  rw [Part.trimClose_rest h]
  exact Part.Spares.trans (.of_same (t := s.cover j) h rfl rfl rfl rfl rfl)
    (Part.testRound_spares (s := s.cover j) (h.of_mode rfl) k)

theorem Part.closeWindow_closed (k : Tower) : (s.closeWindow k).Closed k (s.closing k s.corr.accums[k]) := by
  obtain ⟨w, hw, hclose⟩ := s.closeWindow_eq k
  have hrest : (w.setCorr { w.corr with accums := setAt w.corr.accums k Accum.clear }).AtRest := h.of_mode hw.mode
  rw [hclose]
  refine (Part.coverTest_spares hrest k k).closed ⟨hrest, (getElem_setAt _ _ _ _).trans (if_pos rfl), ?_, fun hclipped => ?_⟩
  · have hreading : w.table.readings[k] = s.closing k s.corr.accums[k] := by
      rw [hw.table]
      exact (getElem_setAt _ _ _ _).trans (if_pos rfl)
    rw [Part.setCorr_table, hreading]
  · rw [Part.setCorr_table, hw.table, Part.windowRead, Part.setTable_table, hclipped]
    exact Bool.or_true _

/-- R44: the close of another tower's window. -/
theorem Part.closeWindow_spares {j k : Tower} (hjk : k ≠ j) : s.Spares k (s.closeWindow j) := by
  obtain ⟨w, hw, hclose⟩ := s.closeWindow_eq j
  have hrest : (w.setCorr { w.corr with accums := setAt w.corr.accums j Accum.clear }).AtRest := h.of_mode hw.mode
  have hcorr : w.corr = s.corr := hw.corr
  have hreading : w.table.readings[k] = s.table.readings[k] := by
    rw [hw.table]
    exact (getElem_setAt _ _ _ _).trans (if_neg hjk)
  have hwritten : s.Spares k (w.setCorr { w.corr with accums := setAt w.corr.accums j Accum.clear }) := by
    refine ⟨hrest, hw.tables, by rw [Part.setCorr_corr, hcorr], ?_, ?_, fun _ => hreading, fun hclipped => ?_⟩
    · rw [Part.setCorr_corr, hcorr]
      exact (getElem_setAt _ _ _ _).trans (if_neg hjk)
    · rw [Part.setCorr_table, hreading]
    · rw [Part.setCorr_table, hw.table, Part.windowRead, Part.setTable_table, hclipped]
      rfl
  rw [hclose]
  exact hwritten.trans (Part.coverTest_spares hrest j k)

end

/-! ### Blocks combined (R32) -/

/-- R40, R43: an addition that brings the count to W. -/
theorem Part.addItem_of_full {s : Part} {k : Tower} {add : Accum → Accum}
    (h : 2 ^ s.corr.config.w ≤ (add s.corr.accums[k]).count) : s.addItem k add = (s.accumulate k add).closeWindow k :=
  if_pos h

theorem Part.addItem_spares {s : Part} (h : s.AtRest) {j k : Tower} (hjk : k ≠ j) (add : Accum → Accum) :
    s.Spares k (s.addItem j add) := by
  have hadded : s.Spares k (s.accumulate j add) :=
    ⟨h.of_mode rfl, rfl, rfl, Part.accumulate_of_ne hjk add, rfl, fun _ => rfl, id⟩
  by_cases hfull : 2 ^ s.corr.config.w ≤ (add s.corr.accums[j]).count
  · rw [Part.addItem_of_full hfull]
    exact hadded.trans (Part.closeWindow_spares hadded.rest hjk)
  · rw [Part.addItem_of_open (not_le.mp hfull)]
    exact hadded

theorem Part.modifyEntry_spares {s : Part} (h : s.AtRest) (k : Tower) (b : BitVec 16) (f : Entry → Entry) :
    s.Spares k (s.modifyEntry b f) :=
  .of_same h rfl rfl rfl rfl rfl

theorem Part.retire_spares {s : Part} (h : s.AtRest) (k : Tower) (b : BitVec 16) : s.Spares k (s.retire b) :=
  .of_same h rfl rfl rfl rfl rfl

/-- R32: the combination of another tower's block. -/
theorem Part.combine_spares {s : Part} (h : s.AtRest) {j k : Tower} (hjk : k ≠ j) (b : BitVec 16) (x : Block) :
    s.Spares k (s.combine b j x) := by
  unfold Part.combine
  split
  · exact .refl h k
  · split
    · exact .refl h k
    · dsimp only
      have hjoined := Part.modifyEntry_spares h k b fun e =>
        { e with held := e.held.filter (fun y => y.1 ≠ j), combined := addTower e.combined j }
      split
      · exact hjoined.trans (Part.addItem_spares hjoined.rest hjk _)
      · exact hjoined

/-- R29, step 3: the combination of held towers, tower k not among them. -/
theorem Part.combineHeld_spares {b : BitVec 16} {k : Tower} {l : List Tower} (hk : k ∉ l) {s : Part} (h : s.AtRest) :
    s.Spares k (Part.combineHeld b l s) := by
  induction l generalizing s with
  | nil => exact .refl h k
  | cons j l ih =>
    obtain ⟨hjk, hl⟩ := not_or.mp (mt List.mem_cons.mpr hk)
    rw [Part.combineHeld]
    split
    next y _ =>
      have hcombined := Part.combine_spares h hjk b y.2
      exact hcombined.trans (ih hl hcombined.rest)
    next => exact ih hl h

end Sys2Proof.Machine
end

section
/-! PROOFS. SAMPLE frames whose addition closes a window. -/

namespace Sys2Proof.Machine

/-! ### The arrival (R30, R29) -/

/-- R32: a tower's block combined with the reference block of an EPOCH entry. -/
theorem Part.combine_of_epoch {s : Part} (hs : s.store.entries.Pairwise fun x y => x.index ≠ y.index) {e : Entry}
    (he : e ∈ s.store.entries) {r : Block} (hr : e.refBlock = some r) (hepoch : e.epoch = true) (k : Tower) (x : Block) :
    s.combine e.index k x = (s.withEntry e (e.join k)).addItem k fun a => a.addCross s.corr.config.s r x := by
  have hentry : s.modifyEntry e.index
      (fun e => { e with held := e.held.filter (fun y => y.1 ≠ k), combined := addTower e.combined k }) =
      s.withEntry e (e.join k) := Part.modifyEntry_eq hs he _
  unfold Part.combine
  rw [Part.entryOf_of_mem hs he]
  dsimp only
  rw [hr]
  dsimp only
  rw [hentry, if_pos hepoch]
  rfl

/-- R44: an addition that fills the window of a tower closes it. -/
theorem Part.addItem_closed {s : Part} (h : s.AtRest) {k : Tower} {add : Accum → Accum}
    (hfull : 2 ^ s.corr.config.w ≤ (add s.corr.accums[k]).count) :
    (s.addItem k add).Closed k (s.closing k (add s.corr.accums[k])) := by
  have hset : (s.accumulate k add).corr.accums[k] = add s.corr.accums[k] := (getElem_setAt _ _ _ _).trans (if_pos rfl)
  have hclosed := Part.closeWindow_closed (s := s.accumulate k add) (h.of_mode rfl) k
  rw [hset] at hclosed
  rw [Part.addItem_of_full hfull]
  exact hclosed

/-- R35, R25: what follows the combination leaves the window. -/
theorem Part.weigh_retire_spares {s : Part} (h : s.AtRest) (k : Tower) (level : Nat) (j : Tower) (x : Block)
    (b : BitVec 16) : s.Spares k ((s.weigh level j x).retire b) := by
  have hweigh := Part.weigh_spares h k level j x
  exact hweigh.trans (Part.retire_spares hweigh.rest k b)

/-- R30, R32, R44: a block combined at its arrival that fills its tower's window. -/
theorem Part.arrival_combined_closed {s : Part} (h : s.AtRest) {k : Tower} {payload : List Byte} {e : Entry}
    (hs : s.store.entries.Pairwise fun x y => x.index ≠ y.index) (he : e ∈ s.store.entries)
    (hindex : e.index = indexOf payload) (hepoch : e.epoch = true) {r : Block} (hr : e.refBlock = some r)
    (href : k ≠ e.refTower) (hhas : e.has k = false)
    (hfull : 2 ^ s.corr.config.w ≤ (s.corr.accums[k].addCross s.corr.config.s r (blockOf payload)).count) :
    (s.arrival k payload).Closed k (s.closing k (s.corr.accums[k].addCross s.corr.config.s r (blockOf payload))) := by
  have hclosed := Part.addItem_closed (s := s.withEntry e (e.join k)) (k := k)
    (add := fun a => a.addCross s.corr.config.s r (blockOf payload)) (h.of_mode rfl) hfull
  rw [Part.arrival_combined hs he hindex hr href hhas, Part.combine_of_epoch hs he hr hepoch]
  exact (Part.weigh_retire_spares hclosed.rest k _ k _ _).closed hclosed

/-- R29, R44: a reference block that fills the reference tower's window at its arrival. -/
theorem Part.arrival_reference_closed {s : Part} (h : s.AtRest) {payload : List Byte} {e : Entry}
    (hs : s.store.entries.Pairwise fun x y => x.index ≠ y.index) (he : e ∈ s.store.entries)
    (hindex : e.index = indexOf payload) (hepoch : e.epoch = true) (hhas : e.has e.refTower = false)
    (hheld : ∀ y, (e.refTower, y) ∉ e.held)
    (hfull : 2 ^ s.corr.config.w ≤ (s.corr.accums[e.refTower].addSelf s.corr.config.s (blockOf payload)).count) :
    (s.arrival e.refTower payload).Closed e.refTower
      (s.closing e.refTower (s.corr.accums[e.refTower].addSelf s.corr.config.s (blockOf payload))) := by
  have hclosed := Part.addItem_closed (s := s.modifyEntry e.index fun e => { e with refBlock := some (blockOf payload) })
    (k := e.refTower) (add := fun a => a.addSelf s.corr.config.s (blockOf payload)) (h.of_mode rfl) hfull
  have hnot : e.refTower ∉ e.held.map Prod.fst := fun hmem => by
    obtain ⟨⟨j, y⟩, hy, rfl⟩ := List.mem_map.mp hmem
    exact hheld y hy
  have hcombined := (Part.combineHeld_spares (b := e.index) hnot hclosed.rest).closed hclosed
  rw [Part.arrival_reference hs he hindex hhas, Part.referenceArrival]
  rw [if_pos hepoch]
  exact (Part.weigh_retire_spares hcombined.rest _ _ _ _ _).closed hcombined

/-! ### The event -/

theorem Part.takeSample_spares {s : Part} {f : Frame} {k : Tower} (hk : s.bank.towerOfNode f.src = some k)
    (hlength : f.payload.length = 131) (h : (s.arrival k f.payload).AtRest) :
    (s.arrival k f.payload).Spares k (s.takeSample f) := by
  have hsettle := Part.settle_spares h k
  rw [Part.takeSample_eq hk hlength]
  split
  · exact hsettle.trans (Part.queueStation_spares hsettle.rest k _ _)
  · exact hsettle

/-- R44, R150: an event of a SAMPLE whose arrival at rest closes its tower's window. -/
theorem exec_sample_closed {src : Byte} {payload : List Byte} {k : Tower} {s : State} (h : s.part.taking)
    (hlength : payload.length = 131) (hk : s.part.bank.towerOfNode src = some k) (hmode : s.part.seq.mode = .stopped)
    {a : Accum}
    (harrive : ∀ p : Part, p.AtRest → p.corr = s.part.corr → p.store = s.part.store →
      (p.arrival k payload).Closed k (p.closing k a)) :
    ∃ t, exec (.sampleArrival src payload) s = .next t ∧ t.part.Closed k (s.part.closing k a) := by
  obtain ⟨halive, hstopped⟩ := (s.part.setRaised []).linkAlive_field_rest
  obtain ⟨hcorr, _, _, _, htables, hstore⟩ := Part.of_measured halive
  have hbank : ((s.part.setRaised []).linkAlive .field).bank = s.part.bank :=
    congrArg (fun x : Tables => activeBank x.mem) htables
  have hclosed := harrive _ (.inl (hstopped.trans hmode)) hcorr hstore
  rw [Part.closing_congr (s := s.part) halive] at hclosed
  have htaken := (Part.takeSample_spares (f := sampleFrame src payload) (by rw [hbank]; exact hk) hlength
    hclosed.rest).closed hclosed
  have hsettled := (Part.settle_spares htaken.rest k).closed htaken
  exact ⟨_, exec_sampleArrival h, hsettled.rest, hsettled.accum, hsettled.reading, hsettled.clipped⟩

/-! ### The reading -/

/-- R46, R49: the state of a closed window. -/
theorem windowState_eq (a : Accum) (floor : Nat) : windowState a floor =
    if a.p < (floor : Int) then .noSignal else if a.limit = true ∨ a.overrange = true then .clipped else .valid := by
  simp only [windowState, Bool.or_eq_true]

/-- R45, R47, R48: the ratio and the phase of a tower other than the reference tower. -/
theorem Reading.close_of_other (r : Reading) (a : Accum) (floor : Nat) :
    (a.p < (floor : Int) → (r.close a floor false).ratio = r.ratio ∧ (r.close a floor false).phase = r.phase) ∧
      ((floor : Int) ≤ a.p → (r.close a floor false).ratio = ratioOf (magnitude a.re a.im) a.p.toNat ∧
        (r.close a floor false).phase = phaseOf a.re a.im) := by
  have hstate : windowState a floor = .noSignal ↔ a.p < (floor : Int) := by
    rw [windowState_eq]
    split_ifs <;> simp_all
  unfold Reading.close
  refine ⟨fun hlow => ?_, fun hhigh => ?_⟩
  · have hno := hstate.mpr hlow
    exact ⟨if_pos hno, if_pos hno⟩
  · have hno := mt hstate.mp (not_lt.mpr hhigh)
    exact ⟨if_neg hno, if_neg hno⟩

/-- R44, R46, R49: what a close sets whatever the tower. -/
theorem Part.Closed.fields {s t : Part} {k : Tower} {a : Accum} (h : t.Closed k (s.closing k a)) :
    t.corr.accums[k] = Accum.clear ∧ t.table.readings[k].closes = s.table.readings[k].closes + 1 ∧
      t.table.readings[k].age = 0 ∧ t.table.readings[k].late = s.table.readings[k].late ∧
      t.table.readings[k].state =
        (if a.p < (s.bank.signalFloor : Int) then .noSignal
          else if a.limit = true ∨ a.overrange = true then .clipped else .valid) ∧
      (a.limit = true ∨ a.overrange = true → (s.bank.signalFloor : Int) ≤ a.p → t.table.anyClipped = true) := by
  have hstate : (s.closing k a).state = _ := windowState_eq a s.bank.signalFloor
  refine ⟨h.accum, ?_, ?_, ?_, ?_, fun hlost hhigh => h.clipped ?_⟩
  · rw [h.reading]
    rfl
  · rw [h.reading]
    rfl
  · rw [h.reading]
    rfl
  · rw [h.reading]
    exact hstate
  · rw [hstate, if_neg (not_lt.mpr hhigh), if_pos hlost]

/-- Settles O18: the arrival closes the window, and nothing after it in the event touches what the close has written. -/
theorem windowCloseWritesTheReading : Obligations.WindowCloseWritesTheReading := by
  intro src payload k e s h hlength hk hmode hs he hindex hepoch old floor closed
  refine ⟨fun r hr href hother hheld hcombined => ?_, fun hr href hself hheld hcombined => ?_⟩
  · intro a hfull
    have hhas := Entry.has_eq_false (fun h => absurd h href) hheld hcombined
    obtain ⟨t, ht, hclosed⟩ := exec_sample_closed (a := a) h hlength hk hmode fun p hrest hcorr hstore => by
      rw [← hstore] at hs he
      have hclosed := Part.arrival_combined_closed hrest hs he hindex hepoch hr href hhas
      rw [hcorr] at hclosed
      exact hclosed hfull.ge
    obtain ⟨hlow, hhigh⟩ := Reading.close_of_other old a s.part.bank.signalFloor
    have hreading := hclosed.reading
    rw [Part.closing, decide_eq_false hother] at hreading
    refine ⟨t, ht, hclosed.fields, fun hp => ?_, fun hp => ?_⟩
    · rw [hreading]
      exact hlow hp
    · rw [hreading]
      exact hhigh hp
  · intro a hfull
    subst href
    have hhas := Entry.has_eq_false (fun _ => hr) hheld hcombined
    obtain ⟨t, ht, hclosed⟩ := exec_sample_closed (a := a) h hlength hk hmode fun p hrest hcorr hstore => by
      rw [← hstore] at hs he
      have hclosed := Part.arrival_reference_closed hrest hs he hindex hepoch hhas hheld
      rw [hcorr] at hclosed
      exact hclosed hfull.ge
    have hreading := hclosed.reading
    rw [Part.closing, decide_eq_true hself] at hreading
    refine ⟨t, ht, hclosed.fields, ?_, ?_⟩
    · rw [hreading]
      rfl
    · rw [hreading]
      rfl

end Sys2Proof.Machine
end

section
/-! PROOFS. The aging of the readings at a block start. -/

namespace Sys2Proof.Machine

/-! ### The age of one reading (R52) -/

/-- R52: the part with its readings one block older, before anything is raised. -/
def Part.readingsAged (s : Part) : Part :=
  s.setTable
    { s.table with
      readings := mapAll s.table.readings fun t r =>
        if s.bank.installed t then
          { r with age := bump 65535 r.age, state := if s.goesStale t then .stale else r.state }
        else r }

theorem Part.ageReadings_eq (s : Part) : s.ageReadings = s.readingsAged.raiseStale (towers.filter s.goesStale) := rfl

theorem Part.goesStale_iff (s : Part) (k : Tower) : s.goesStale k = true ↔ s.bank.installed k = true ∧
    s.table.readings[k].state ≠ .stale ∧ 4 * 2 ^ s.corr.config.w < upTo 65535 s.table.readings[k].age := by
  simp only [Part.goesStale, Bool.and_eq_true, decide_eq_true_eq, bne_iff_ne, and_assoc]
  rfl

theorem Part.readingsAged_installed {s : Part} {k : Tower} (hk : s.bank.installed k = true) :
    s.readingsAged.table.readings[k].age = upTo 65535 s.table.readings[k].age ∧
      s.readingsAged.table.readings[k].state =
        if 4 * 2 ^ s.corr.config.w < upTo 65535 s.table.readings[k].age then .stale
        else s.table.readings[k].state := by
  have hread : s.readingsAged.table.readings[k] = _ := (mapAll_getElem _ _ k).trans (if_pos hk)
  rw [hread]
  refine ⟨rfl, ?_⟩
  have hiff := s.goesStale_iff k
  dsimp only
  split_ifs with hstale hold hold
  · rfl
  · exact absurd (hiff.mp hstale).2.2 hold
  · exact not_ne_iff.mp fun hne => hstale (hiff.mpr ⟨hk, hne, hold⟩)
  · rfl

theorem Part.readingsAged_uninstalled {s : Part} {k : Tower} (hk : s.bank.installed k = false) :
    s.readingsAged.table.readings[k] = s.table.readings[k] :=
  (mapAll_getElem _ _ k).trans (if_neg (Bool.not_eq_true _ ▸ hk))

/-! ### What surrounds the aging, at rest -/

/-- R62: the towers that are STALE are covered in the round. -/
theorem Part.coverStale_eq (s : Part) : ∃ x, s.coverStale = s.setRound x := by
  have hfold : ∀ (l : List Tower) (x : VerdictUnit), ∃ y, l.foldl Part.cover (s.setRound x) = s.setRound y := fun l => by
    induction l with
    | nil => exact fun x => ⟨x, rfl⟩
    | cons j l ih => exact fun x => ih { x with coverage := addTower x.coverage j }
  exact hfold _ s.round

theorem Part.blockCalled_spares {s : Part} (h : s.AtRest) (k : Tower) : s.Spares k s.blockCalled := by
  rw [Part.blockCalled_eq, Part.atExpiry_eq]
  exact .of_same h rfl rfl rfl rfl rfl

theorem Part.evict_spares {s : Part} (h : s.AtRest) (k : Tower) (e : Entry) (rest : List Entry) :
    s.Spares k (s.evict e rest) :=
  have hstore : s.Spares k (s.setStore { s.store with entries := rest }) := .of_same h rfl rfl rfl rfl rfl
  hstore.trans (Part.setTable_evaluateQuiet_spares hstore.rest k rfl rfl)

theorem Part.closeOld_spares {s : Part} (h : s.AtRest) (k : Tower) (i : BitVec 16) : s.Spares k (s.closeOld i) := by
  unfold Part.closeOld
  split
  · exact .refl h k
  · exact Part.evict_spares h k _ _

theorem Part.evictOldest_spares {s : Part} (h : s.AtRest) (k : Tower) : s.Spares k s.evictOldest := by
  unfold Part.evictOldest
  split
  · exact .refl h k
  · split
    · exact Part.evict_spares h k _ _
    · exact .refl h k

theorem Part.openRoom_spares {s : Part} (h : s.AtRest) (k : Tower) (i : BitVec 16) :
    s.Spares k ((s.makeRoom i).openEntry i) :=
  have hold := Part.closeOld_spares h k i
  have hroom := hold.trans (Part.evictOldest_spares hold.rest k)
  hroom.trans (.of_same hroom.rest rfl rfl rfl rfl rfl)

theorem Part.raiseStale_spares {s : Part} (h : s.AtRest) (k : Tower) (ts : List Tower) :
    s.Spares k (s.raiseStale ts) := by
  obtain ⟨hmeasured, hseq⟩ := Part.raiseEach_rest .towerStale s.classCD (ts.map FaultObject.tower) s
  exact .of_measured (h.of_mode (congrArg Sequencer.mode hseq)) hmeasured
    (congrArg ReadingTable.anyClipped (Part.raiseEach_table _ _ _ s))

theorem Part.coverStale_spares {s : Part} (h : s.AtRest) (k : Tower) : s.Spares k s.coverStale := by
  obtain ⟨x, hx⟩ := s.coverStale_eq
  rw [hx]
  exact .of_same h rfl rfl rfl rfl rfl

theorem Part.drivePins_spares {s : Part} (h : s.AtRest) (k : Tower) : s.Spares k s.drivePins :=
  .of_same h rfl rfl rfl rfl rfl

/-- R52, R53, R62: what follows the aging of the readings in the event of a block start. -/
theorem Part.afterAging_spares {s : Part} (h : s.AtRest) (k : Tower) :
    s.readingsAged.Spares k s.ageReadings.coverStale.testRound.settle.drivePins := by
  have hraised := Part.raiseStale_spares (s := s.readingsAged) (h.of_mode rfl) k (towers.filter s.goesStale)
  rw [← Part.ageReadings_eq] at hraised
  have hcovered := hraised.trans (Part.coverStale_spares hraised.rest k)
  have htested := hcovered.trans (Part.testRound_spares hcovered.rest k)
  have hsettled := htested.trans (Part.settle_spares htested.rest k)
  exact hsettled.trans (Part.drivePins_spares hsettled.rest k)

/-- R20, R52: a block start at rest ages the readings, and leaves them else. -/
theorem Part.blockExpires_ages {s : Part} (h : s.AtRest) (k : Tower) :
    ∃ u, s.Spares k u ∧ u.readingsAged.Spares k s.blockExpires.settle.drivePins := by
  have hcalled := Part.blockCalled_spares h k
  have hopened := hcalled.trans (Part.openRoom_spares hcalled.rest k (s.timer.index + 1))
  rw [Part.blockExpires_opens]
  exact ⟨_, hopened, Part.afterAging_spares hopened.rest k⟩

/-- R52: every reading after a block start at rest. -/
theorem Part.blockExpires_reading {s : Part} (h : s.AtRest) (k : Tower) :
    (s.bank.installed k = true →
      s.blockExpires.settle.drivePins.table.readings[k].age = upTo 65535 s.table.readings[k].age ∧
      s.blockExpires.settle.drivePins.table.readings[k].state =
        if 4 * 2 ^ s.corr.config.w < upTo 65535 s.table.readings[k].age then .stale
        else s.table.readings[k].state) ∧
      (s.bank.installed k = false → s.blockExpires.settle.drivePins.table.readings[k] = s.table.readings[k]) := by
  obtain ⟨u, hu, haged⟩ := Part.blockExpires_ages h k
  refine ⟨fun hk => ?_, fun hk => ?_⟩
  · obtain ⟨hage, hstate⟩ := Part.readingsAged_installed (s := u) (k := k) (by rw [hu.bank]; exact hk)
    rw [hu.config, hu.reading] at hstate
    rw [hu.reading] at hage
    rw [haged.reading]
    exact ⟨hage, hstate⟩
  · have hold : u.bank.installed k = false := by rw [hu.bank]; exact hk
    rw [haged.uninstalled hold, Part.readingsAged_uninstalled hold, hu.uninstalled hk]

/-! ### The one tower that goes STALE (R53) -/

/-- R20, R23: the part with BLOCK_START handed over and the entry of the new block opened, where none has to be evicted. -/
def Part.blockOpened (s : Part) : Part := s.blockCalled.openEntry (s.timer.index + 1)

theorem Part.blockOpened_eq (s : Part) :
    s.blockOpened.seq = s.seq ∧ s.blockOpened.faults = s.faults ∧ s.blockOpened.raised = s.raised ∧
      s.blockOpened.tables = s.tables ∧ s.blockOpened.table = s.table ∧ s.blockOpened.corr = s.corr := by
  rw [Part.blockOpened, Part.blockCalled_eq, Part.atExpiry_eq]
  exact ⟨rfl, rfl, rfl, rfl, rfl, rfl⟩

theorem Part.blockExpires_of_room {s : Part} (hroom : s.store.entries.length < 8)
    (hi : ∀ e ∈ s.store.entries, e.index ≠ s.timer.index + 1) :
    s.blockExpires = s.blockOpened.ageReadings.coverStale.testRound := by
  obtain ⟨_, hstore, _⟩ := s.blockCalled_rest
  rw [Part.blockExpires_opens, Part.openBlock, Part.makeRoom_of_room (by rw [hstore]; exact hi)
    (by rw [hstore]; exact hroom)]
  rfl

/-- R53: where one tower goes STALE and its raise has room, TOWER_STALE is recorded and owed. -/
theorem Part.ageReadings_of_one {s : Part} {k : Tower} (h : ∀ j, s.goesStale j = true ↔ j = k)
    (hroom : s.room .towerStale (.tower k)) :
    s.ageReadings = (s.readingsAged.recorded .towerStale (.tower k) s.classCD).setRaised
      (s.raised ++ [{ cls := s.classCD, kind := .towerStale, situation := s.situation, pats := s.changePats }]) := by
  have hone : towers.filter s.goesStale = [k] := by
    have hbeq : s.goesStale = (· == k) := funext fun j => by
      rw [Bool.eq_iff_iff, h, beq_iff_eq]
    rw [hbeq, towers, List.filter_beq, List.count_eq_one_of_mem (List.nodup_finRange 12) (List.mem_finRange k)]
    rfl
  rw [Part.ageReadings_eq, hone]
  exact Part.raise_eq (s := s.readingsAged) hroom _

/-- R152: the fault list holds the record of a raise of TOWER_STALE for tower k at the present uptime. -/
def Part.StaleRecorded (s : Part) (k : Tower) (cls : FaultClass) : Prop :=
  ∃ r ∈ s.faults.records, r.kind = .towerStale ∧ r.cls = cls ∧ r.object = .tower k ∧
    r.active = decide (cls = .c) ∧ r.first = s.uptime

theorem Part.StaleRecorded.of_same {k : Tower} {cls : FaultClass} {s t : Part} (h : s.StaleRecorded k cls)
    (hfaults : t.faults = s.faults) (huptime : t.uptime = s.uptime) : t.StaleRecorded k cls := by
  unfold Part.StaleRecorded
  rw [hfaults, huptime]
  exact h

theorem Part.staleRecorded_recorded (s : Part) (k : Tower) {cls : FaultClass} (h : cls ≠ .d ↔ cls = .c) :
    (s.recorded .towerStale (.tower k) cls).StaleRecorded k cls :=
  ⟨_, List.mem_append_right _ (List.mem_singleton_self _), rfl, rfl, rfl, decide_eq_decide.mpr h, rfl⟩

theorem Part.classCD_ne_d_iff (s : Part) : s.classCD ≠ .d ↔ s.classCD = .c := by
  unfold Part.classCD
  split <;> simp

/-- R53: what the aging of one tower to STALE leaves. -/
structure Part.AgedTo (s : Part) (k : Tower) (t : Part) : Prop where
  seq : t.seq = s.seq
  tables : t.tables = s.tables
  stale : t.table.readings[k].state = .stale
  owed : t.raised ≠ []
  cls : ∀ r ∈ t.raised, r.cls = s.classCD
  record : t.StaleRecorded k s.classCD

theorem Part.ageReadings_agedTo {s : Part} {k : Tower} (hraised : s.raised = [])
    (h : ∀ j, s.goesStale j = true ↔ j = k) (hroom : s.room .towerStale (.tower k)) : s.AgedTo k s.ageReadings := by
  obtain ⟨hk, _, hold⟩ := (s.goesStale_iff k).mp ((h k).mpr rfl)
  obtain ⟨_, hstale⟩ := Part.readingsAged_installed hk
  rw [if_pos hold] at hstale
  have hrecord := s.readingsAged.staleRecorded_recorded k s.classCD_ne_d_iff
  obtain ⟨x, hx⟩ : ∃ x, s.readingsAged = s.setTable x := ⟨_, rfl⟩
  rw [Part.ageReadings_of_one h hroom, hraised]
  rw [hx] at hstale hrecord ⊢
  refine ⟨rfl, rfl, hstale, List.cons_ne_nil _ _, fun r hr => ?_, hrecord.of_same rfl rfl⟩
  rw [List.mem_singleton.mp hr]

/-! ### In STOPPED (R160) -/

/-- R66: a judgement rewrites the flags and the round. -/
theorem Part.judge_eq (s : Part) : ∃ x y, s.judge = (s.setTable x).setRound y := ⟨_, _, rfl⟩

/-- R65, R66: a completion test at rest leaves the sequencer, the fault list and what is owed. -/
theorem Part.testRound_rest {s : Part} (h : s.AtRest) :
    s.testRound.seq = s.seq ∧ s.testRound.faults = s.faults ∧ s.testRound.raised = s.raised := by
  unfold Part.testRound
  split
  · obtain ⟨z, hz⟩ := Part.completeRound_rest h
    obtain ⟨x, y, hjudge⟩ := s.judge_eq
    rw [hz, hjudge]
    exact ⟨rfl, rfl, rfl⟩
  · exact ⟨rfl, rfl, rfl⟩

/-- R62, R65, R160: the event of a block start in STOPPED, after an aging that owes raises of class D. -/
theorem Part.coverStale_settled {s : Part} (h : s.AtRest) (hd : ∀ r ∈ s.raised, r.cls = .d) :
    s.coverStale.testRound.settle.drivePins.seq = s.seq ∧
      s.coverStale.testRound.settle.drivePins.faults = s.faults := by
  obtain ⟨x, hx⟩ := s.coverStale_eq
  obtain ⟨hseq, hfaults, howed⟩ := Part.testRound_rest (s := s.setRound x) (h.of_mode rfl)
  rw [hx, Part.settle_of_d (howed ▸ hd)]
  exact ⟨hseq, hfaults⟩

theorem Part.coverStale_uptime (s : Part) : s.coverStale.testRound.settle.drivePins.uptime = s.uptime :=
  ((s.coverStale_works.trans (Part.testRound_works _)).trans (Part.settle_drivePins_works _)).uptime

/-- R53, R160: TOWER_STALE in STOPPED. -/
theorem Part.AgedTo.stopped {s t : Part} {k : Tower} (h : s.AgedTo k t) (hmode : s.seq.mode = .stopped) :
    t.coverStale.testRound.settle.drivePins.seq = s.seq ∧
      t.coverStale.testRound.settle.drivePins.StaleRecorded k .d := by
  have hclass : s.classCD = .d := by rw [Part.classCD, Part.isInPattern, hmode]; rfl
  obtain ⟨hseq, hfaults⟩ := Part.coverStale_settled (.inl (h.seq ▸ hmode)) (hclass ▸ h.cls)
  exact ⟨hseq.trans h.seq, (hclass ▸ h.record).of_same hfaults t.coverStale_uptime⟩

/-! ### In IN_PATTERN (R95) -/

/-- IN_PATTERN with class C raises owed, and no others, and an ACTIVE TOWER_STALE record of tower k. -/
structure Part.OwesStale (k : Tower) (s : Part) : Prop where
  mode : s.seq.mode = .inPattern
  owed : s.raised ≠ []
  cls : ∀ r ∈ s.raised, r.cls = .c
  record : s.StaleRecorded k .c

theorem Part.OwesStale.of_same {k : Tower} {s t : Part} (h : s.OwesStale k) (hmode : t.seq.mode = s.seq.mode)
    (hraised : t.raised = s.raised) (hfaults : t.faults = s.faults) (huptime : t.uptime = s.uptime) :
    t.OwesStale k where
  mode := hmode.trans h.mode
  owed := hraised ▸ h.owed
  cls := hraised ▸ h.cls
  record := h.record.of_same hfaults huptime

/-- R153, R154: a class C raise of another kind leaves a record as it is. -/
theorem FaultUnit.record_keeps {u : FaultUnit} {r x : FaultRecord} (h : r ∈ u.records) (hkind : r.kind ≠ x.kind)
    (hcls : x.cls = .c) (now : Uptime) : r ∈ (u.record now x).records := by
  have hmatch : r.matchesRaise x.kind x.object = false := by
    simp [FaultRecord.matchesRaise, hkind]
  unfold FaultUnit.record
  split
  · exact List.mem_map.mpr ⟨r, h, if_neg (Bool.not_eq_true _ ▸ hmatch)⟩
  · rw [FaultUnit.place, hcls]
    dsimp only
    split
    · exact List.mem_append_left _ h
    · exact h

/-- R69, R154: another class C raise. -/
theorem Part.OwesStale.raise {k : Tower} {s : Part} (h : s.OwesStale k) {kind : FaultKind} (hkind : kind ≠ .towerStale)
    (o : FaultObject) : (s.raise kind o .c).OwesStale k where
  mode := h.mode
  owed := List.append_ne_nil_of_right_ne_nil _ (List.cons_ne_nil _ _)
  cls r hr := by
    obtain hr | hr := List.mem_append.mp hr
    · exact h.cls r hr
    · rw [List.mem_singleton.mp hr]
  record := by
    obtain ⟨r, hr, hk, hfields⟩ := h.record
    exact ⟨r, FaultUnit.record_keeps hr (hk.symm ▸ hkind.symm) rfl _, hk, hfields⟩

/-- R69: an OUT_TOL verdict, or none, in IN_PATTERN. -/
theorem Part.OwesStale.sequencerVerdict {k : Tower} {s : Part} (h : s.OwesStale k) {v : Verdict} (hv : v ≠ .inTol) :
    (s.sequencerVerdict v).OwesStale k := by
  unfold Part.sequencerVerdict
  rw [h.mode]
  cases s.seq.active with
  | none => exact h
  | some p =>
    cases v with
    | noVerdict => exact h
    | inTol => exact absurd rfl hv
    | outTol =>
      have hrestore : (s.setSeq { s.seq with restore := 0 }).OwesStale k := h.of_same rfl rfl rfl rfl
      unfold Part.patternVerdict Part.ootRises
      dsimp only
      split
      · exact hrestore
      · split
        · refine Part.OwesStale.raise (kind := .outOfTolerance) ?_ nofun .nothing
          exact hrestore.of_same rfl rfl rfl rfl
        · exact hrestore.of_same rfl rfl rfl rfl

/-- R133: only an IN_TOL verdict refills the trim budgets. -/
theorem Part.trimVerdict_of_ne {s : Part} {v : Verdict} (hv : v ≠ .inTol) : s.trimVerdict v = s := by
  unfold Part.trimVerdict
  split
  · exact if_neg fun h => hv h.1
  · rfl

/-- R57, R66: a round does not judge IN_TOL an array with a STALE tower. -/
theorem Part.judge_of_stale {s : Part} {k : Tower} (hk : s.bank.installed k = true)
    (hstale : s.table.readings[k].state = .stale) : s.judge.round.last ≠ .inTol := by
  have hfails : ∀ ts, k ∈ s.failingTowers ts := fun ts =>
    List.mem_filter.mpr ⟨List.mem_filter.mpr ⟨List.mem_finRange k, hk⟩, by rw [Reading.passes, hstale]; rfl⟩
  unfold Part.judge
  dsimp only [Part.setRound]
  split
  · nofun
  next ts _ =>
    rw [if_neg fun hempty => List.ne_nil_of_mem (hfails ts) (List.isEmpty_iff.mp hempty)]
    nofun

/-- R65, R66: a completion test over a STALE tower. -/
theorem Part.OwesStale.testRound {k : Tower} {s : Part} (h : s.OwesStale k) (hk : s.bank.installed k = true)
    (hstale : s.table.readings[k].state = .stale) : s.testRound.OwesStale k := by
  have hv := Part.judge_of_stale hk hstale
  unfold Part.testRound Part.completeRound
  dsimp only
  split
  · obtain ⟨z, hz⟩ := s.judge.handMonitor_eq s.judge.monitorFrame
    obtain ⟨x, y, hjudge⟩ := s.judge_eq
    have hjudged : (s.judge.setStation z).OwesStale k := by
      rw [hjudge]
      exact h.of_same rfl rfl rfl rfl
    rw [hz, Part.trimVerdict_of_ne hv]
    exact (hjudged.sequencerVerdict hv).of_same rfl rfl rfl rfl
  · exact h

/-- R139: a ramp in IN_PATTERN rewrites the Ramp Engine and the waiting POWER frames. -/
theorem Part.rampInPattern_eq (s : Part) (level : Nat) : ∃ r z, s.rampInPattern level = (s.setRamp r).setStation z := by
  unfold Part.rampInPattern Part.testRamp
  split
  · exact ⟨_, _, rfl⟩
  · exact ⟨_, _, rfl⟩

/-- R95: the class C reaction in IN_PATTERN. -/
theorem Part.degrade_eq {s : Part} (h : s.seq.mode = .inPattern) :
    ∃ r z, s.degrade = ((s.setSeq { s.seq with sub := .degraded, restore := 0 }).setRamp r).setStation z := by
  unfold Part.degrade
  rw [h]
  cases hsub : s.seq.sub with
  | normal =>
    cases s.seq.active with
    | none => exact ⟨_, _, rfl⟩
    | some p => exact Part.rampInPattern_eq _ _
  | degraded =>
    refine ⟨s.ramp, s.station, ?_⟩
    exact congrArg (fun x => s.setSeq { s.seq with sub := x, restore := 0 }) hsub

/-- R150, R160: only class C reactions are owed, and one is applied. -/
theorem Part.OwesStale.settle_eq {k : Tower} {s : Part} (h : s.OwesStale k) :
    ∃ r z, s.settle =
      (((s.setRaised []).setSeq { s.seq with sub := .degraded, restore := 0 }).setRamp r).setStation z := by
  have hnone : ∀ cls, cls ≠ .c → s.firstOwed cls = none := fun cls hcls =>
    List.find?_eq_none.mpr fun r hr => by simp [h.cls r hr, hcls.symm]
  have hsome : ∃ x, s.firstOwed .c = some x := by
    obtain ⟨x, hx⟩ := List.exists_mem_of_ne_nil _ h.owed
    exact Option.isSome_iff_exists.mp (List.find?_isSome.mpr ⟨x, hx, beq_iff_eq.mpr (h.cls x hx)⟩)
  obtain ⟨x, hx⟩ := hsome
  obtain ⟨r, z, hdegrade⟩ := Part.degrade_eq (s := s.setRaised []) h.mode
  have hreact : s.reactOnce = (s.setRaised []).degrade := by
    rw [Part.reactOnce, hnone .a nofun, hnone .b nofun, hx]
  refine ⟨r, z, ?_⟩
  rw [Part.settle, Part.react, if_neg fun hempty => h.owed (List.isEmpty_iff.mp hempty), hreact, hdegrade]
  rfl

/-- R95, R162, R184: what an event leaves that owes the class C reaction. -/
theorem Part.OwesStale.settled {k : Tower} {s : Part} (h : s.OwesStale k) :
    s.settle.drivePins.seq.mode = .inPattern ∧ s.settle.drivePins.seq.sub = .degraded ∧
      s.settle.drivePins.seq.restore = 0 ∧ s.settle.drivePins.pins = { fault := true, inPattern := false } ∧
      s.settle.drivePins.StaleRecorded k .c := by
  obtain ⟨r, z, hsettle⟩ := h.settle_eq
  obtain ⟨x, hx, _, hcls, _, hactive, _⟩ := h.record
  have hline : (s.faults.records.any fun r => r.active && r.cls != .d) = true :=
    List.any_eq_true.mpr ⟨x, hx, by rw [hactive, hcls]; rfl⟩
  have hfault : ((s.faults.records.any fun r => r.active && r.cls != .d) || s.seq.mode == .halted) = true := by
    rw [hline, Bool.true_or]
  have hlamp : (s.seq.mode == .inPattern && Substatus.degraded == .normal) = false := Bool.and_false _
  rw [hsettle]
  exact ⟨h.mode, rfl, rfl, congrArg₂ Pins.mk hfault hlamp, h.record.of_same rfl rfl⟩

/-- R53, R62, R65: the event of a block start in IN_PATTERN, after an aging that makes one tower STALE. -/
theorem Part.OwesStale.coverStale {k : Tower} {s : Part} (h : s.OwesStale k) (hk : s.bank.installed k = true)
    (hstale : s.table.readings[k].state = .stale) : s.coverStale.testRound.OwesStale k := by
  obtain ⟨x, hx⟩ := s.coverStale_eq
  have hcovered : (s.setRound x).OwesStale k := h.of_same rfl rfl rfl rfl
  rw [hx]
  exact hcovered.testRound hk hstale

/-- R53, R95: TOWER_STALE in IN_PATTERN. -/
theorem Part.AgedTo.inPattern {s t : Part} {k : Tower} (h : s.AgedTo k t) (hmode : s.seq.mode = .inPattern)
    (hk : s.bank.installed k = true) : t.coverStale.testRound.OwesStale k := by
  have hclass : s.classCD = .c := by rw [Part.classCD, Part.isInPattern, hmode]; rfl
  have howes : t.OwesStale k := ⟨h.seq ▸ hmode, h.owed, hclass ▸ h.cls, hclass ▸ h.record⟩
  exact howes.coverStale (by rw [Part.bank, h.tables]; exact hk) h.stale

/-! ### The event -/

/-- R52: of the towers, k alone goes STALE. -/
theorem Part.goesStale_iff_eq {s : Part} {k : Tower} (hk : s.bank.installed k = true)
    (hnot : s.table.readings[k].state ≠ .stale)
    (hold : 4 * 2 ^ s.corr.config.w < upTo 65535 s.table.readings[k].age)
    (hothers : ∀ j : Tower, j ≠ k → s.bank.installed j = true → s.table.readings[j].state ≠ .stale →
      upTo 65535 s.table.readings[j].age ≤ 4 * 2 ^ s.corr.config.w) (j : Tower) :
    s.goesStale j = true ↔ j = k := by
  rw [Part.goesStale_iff]
  refine ⟨fun ⟨hj, hstate, hage⟩ => ?_, fun hjk => hjk ▸ ⟨hk, hnot, hold⟩⟩
  by_contra hjk
  exact absurd hage (not_lt.mpr (hothers j hjk hj hstate))

/-- R53: what the event ages, where none of the entries is evicted and tower k alone goes STALE. -/
theorem Part.blockOpened_agedTo {s : Part} {k : Tower} (hraised : s.raised = []) (h : ∀ j, s.goesStale j = true ↔ j = k)
    (hroom : s.room .towerStale (.tower k)) : s.blockOpened.AgedTo k s.blockOpened.ageReadings := by
  obtain ⟨_, hfaults, howed, htables, htable, hcorr⟩ := s.blockOpened_eq
  refine Part.ageReadings_agedTo (howed.trans hraised) (fun j => ?_) (by rw [Part.room, hfaults]; exact hroom)
  rw [Part.goesStale_iff, Part.bank, htables, htable, hcorr, ← Part.bank, ← Part.goesStale_iff]
  exact h j

/-- Settles O13: the age and the state are those of the aging alone, since what surrounds it in the event touches no more
of a reading than its in-tolerance flag; the one raise is then followed to its reaction. -/
theorem readingsAgeAtEachBlockStart : Obligations.ReadingsAgeAtEachBlockStart := by
  refine ⟨fun s h hmode => ?_, ?_⟩
  · exact ⟨_, exec_blockTimerExpiry h, fun k => Part.blockExpires_reading (s := s.part.setRaised []) (.inl hmode) k⟩
  · intro k s h hplaces hnew hk hnot hold hothers hroom recordedAs
    obtain ⟨hseq, _, _, htables, _⟩ := (s.part.setRaised []).blockOpened_eq
    have haged := Part.blockOpened_agedTo (s := s.part.setRaised []) rfl
      (Part.goesStale_iff_eq (s := s.part.setRaised []) hk hnot hold hothers) hroom
    have hopened := Part.blockExpires_of_room (s := s.part.setRaised []) hplaces hnew
    refine ⟨fun hmode => ?_, fun hmode => ?_⟩
    · have hsettled := (haged.inPattern (by rw [hseq]; exact hmode) (by rw [Part.bank, htables]; exact hk)).settled
      rw [← hopened] at hsettled
      exact ⟨_, exec_blockTimerExpiry h, hsettled⟩
    · obtain ⟨hsame, hrecord⟩ := haged.stopped (by rw [hseq]; exact hmode)
      rw [← hopened] at hsame hrecord
      exact ⟨_, exec_blockTimerExpiry h, hsame.trans hseq, hrecord⟩

end Sys2Proof.Machine
end

section
/-! PROOFS. The tolerance tests, and the verdict of a round. -/

namespace Sys2Proof.Machine

/-! ### The tolerance tests (R57 to R60) -/

theorem levelGap_eq_natAbs (a b : Nat) : levelGap a b = ((a : Int) - b).natAbs := by
  unfold levelGap
  omega

/-- R59: a difference of two phases, each within a turn, is brought within one turn by at most one whole turn. -/
theorem wrapPhase_range {d : Int} (hlow : -36000 < d) (hhigh : d < 36000) :
    (∃ n : Int, wrapPhase d = d + 36000 * n) ∧ -18000 ≤ wrapPhase d ∧ wrapPhase d ≤ 17999 := by
  unfold wrapPhase
  split_ifs
  · exact ⟨⟨-1, by omega⟩, by omega, by omega⟩
  · exact ⟨⟨1, by omega⟩, by omega, by omega⟩
  · exact ⟨⟨0, by omega⟩, by omega, by omega⟩

/-- R59: the phase test, with the wrapped difference said by what it is. -/
theorem phaseInTol_iff {phase target : Int} {tol : Nat} (hp : -18000 ≤ phase) (hp' : phase ≤ 17999)
    (ht : -18000 ≤ target) (ht' : target ≤ 17999) :
    phaseInTol phase target tol = true ↔
      ∃ d n : Int, d = phase - target + 36000 * n ∧ -18000 ≤ d ∧ d ≤ 17999 ∧ d.natAbs ≤ tol := by
  obtain ⟨⟨n, hn⟩, hlow, hhigh⟩ := wrapPhase_range (d := phase - target) (by omega) (by omega)
  rw [phaseInTol, decide_eq_true_iff]
  constructor
  · exact fun h => ⟨_, n, hn, hlow, hhigh, h⟩
  · rintro ⟨d, m, hd, hdlow, hdhigh, htol⟩
    have hsame : wrapPhase (phase - target) = d := by omega
    rw [hsame]
    exact htol

theorem Reading.passes_ref (r : Reading) (x : TowerTarget) : r.passes x true = true ↔ r.state = .valid := by
  simp [Reading.passes]

theorem Reading.passes_dark {x : TowerTarget} (h : x.role = .dark) (r : Reading) :
    r.passes x false = true ↔ r.state = .valid ∧ r.ratio ≤ x.ratio := by
  simp [Reading.passes, h]

theorem Reading.passes_lit {x : TowerTarget} (h : x.role = .lit) (r : Reading) :
    r.passes x false = true ↔ r.state = .valid ∧ ((r.ratio : Int) - x.ratio).natAbs * 1000 ≤ x.ratioTol * x.ratio ∧
      phaseInTol r.phase x.phase x.phaseTol = true := by
  simp [Reading.passes, h, ratioInTol, levelGap_eq_natAbs]

/-- Settles O21: one equivalence for each kind of tower; a LIT tower's wrapped difference is the only one within a turn. -/
theorem toleranceTestsAreExact : Obligations.ToleranceTestsAreExact := by
  refine fun r x => ⟨r.passes_ref x, fun h => Reading.passes_dark h r, fun h hp hp' ht ht' => ?_⟩
  rw [Reading.passes_lit h, phaseInTol_iff hp hp' ht ht']

/-! ### The verdict of a completion (R66) -/

/-- R66: the targets a completion judges by, none in HALTED. -/
def Part.judgedBy (s : Part) : Option (Vector TowerTarget 12) := if s.isHalted then none else s.corr.config.targets

theorem Part.judgedBy_eq_none {s : Part} (h : s.corr.config.targets = none ∨ s.seq.mode = .halted) :
    s.judgedBy = none := by
  unfold Part.judgedBy
  obtain h | h := h
  · rw [h, ite_self]
  · exact if_pos (beq_iff_eq.mpr h)

theorem Part.judgedBy_eq_some {s : Part} {ts : Vector TowerTarget 12} (h : s.corr.config.targets = some ts)
    (hmode : s.seq.mode ≠ .halted) : s.judgedBy = some ts := by
  have hnot : s.isHalted = false := beq_eq_false_iff_ne.mpr hmode
  rw [Part.judgedBy, hnot, if_neg Bool.false_ne_true, h]

/-- R66: a completion without targets. -/
theorem Part.judge_of_none {s : Part} (h : s.judgedBy = none) :
    s.judge = (s.setTable { s.table with
      readings := mapAll s.table.readings fun t r => if s.bank.installed t then { r with inTol := false } else r }).setRound
      { counter := s.round.counter + 1, coverage := s.round.coverage, last := .noVerdict, failing := [] } := by
  unfold Part.judge
  rw [← Part.judgedBy, h]
  rfl

/-- R57, R66: a completion judged by targets. -/
theorem Part.judge_of_some {s : Part} {ts : Vector TowerTarget 12} (h : s.judgedBy = some ts) :
    s.judge = (s.setTable { s.table with
      readings := mapAll s.table.readings fun t r =>
        if s.bank.installed t then { r with inTol := !(s.failingTowers ts).contains t } else r }).setRound
      { counter := s.round.counter + 1, coverage := s.round.coverage
        last := if (s.failingTowers ts).isEmpty then .inTol else .outTol, failing := s.failingTowers ts } := by
  unfold Part.judge
  rw [← Part.judgedBy, h]
  rfl

/-- R66: the failing towers are the installed ones that fail their tests. -/
theorem Part.mem_failingTowers {s : Part} {ts : Vector TowerTarget 12} {j : Tower} :
    j ∈ s.failingTowers ts ↔ s.bank.installed j = true ∧
      s.table.readings[j].passes ts[j] (decide (j = s.corr.config.refTower)) = false := by
  rw [Part.failingTowers, List.mem_filter, Bank.installedTowers, List.mem_filter, Bool.not_eq_true']
  exact and_congr_left fun _ => and_iff_right (List.mem_finRange j)

theorem Part.failingTowers_isEmpty {s : Part} {ts : Vector TowerTarget 12} :
    (s.failingTowers ts).isEmpty = true ↔ ∀ j : Tower, s.bank.installed j = true →
      s.table.readings[j].passes ts[j] (decide (j = s.corr.config.refTower)) = true := by
  rw [List.isEmpty_iff, List.eq_nil_iff_forall_not_mem]
  refine forall_congr' fun j => ?_
  rw [Part.mem_failingTowers, not_and, Bool.not_eq_false]

theorem Part.judge_last {s : Part} {ts : Vector TowerTarget 12} (h : s.judgedBy = some ts) :
    s.judge.round.last = if (s.failingTowers ts).isEmpty then .inTol else .outTol :=
  congrArg (fun p : Part => p.round.last) (Part.judge_of_some h)

theorem Part.judge_failing {s : Part} {ts : Vector TowerTarget 12} (h : s.judgedBy = some ts) :
    s.judge.round.failing = s.failingTowers ts :=
  congrArg (fun p : Part => p.round.failing) (Part.judge_of_some h)

/-- R57: the in-tolerance flag of an installed tower. -/
theorem Part.judge_inTol {s : Part} {ts : Vector TowerTarget 12} (h : s.judgedBy = some ts) {k : Tower}
    (hk : s.bank.installed k = true) :
    s.judge.table.readings[k].inTol =
      s.table.readings[k].passes ts[k] (decide (k = s.corr.config.refTower)) := by
  have hread : s.judge.table.readings[k] = { s.table.readings[k] with inTol := !(s.failingTowers ts).contains k } := by
    rw [Part.judge_of_some h]
    exact (mapAll_getElem _ _ k).trans (if_pos hk)
  rw [hread, Bool.eq_iff_iff, Bool.not_eq_true', ← Bool.not_eq_true, List.contains_iff_mem, Part.mem_failingTowers,
    not_and, Bool.not_eq_false]
  exact ⟨fun h => h hk, fun h _ => h⟩

/-- R66: IN_TOL, or OUT_TOL, by whether every installed tower passes. -/
theorem Part.judge_last_iff {s : Part} {ts : Vector TowerTarget 12} (h : s.judgedBy = some ts) :
    (s.judge.round.last = .inTol ↔ (s.failingTowers ts).isEmpty = true) ∧
      (s.judge.round.last = .outTol ↔ ¬(s.failingTowers ts).isEmpty = true) := by
  rw [Part.judge_last h]
  split <;> simp [*]

/-- Settles O22: with targets, the verdict and the flags are read off the failing set; without, there is none. -/
theorem roundCompletionGivesTheVerdict : Obligations.RoundCompletionGivesTheVerdict := by
  refine fun s k hk => ⟨rfl, fun h => ?_, fun ts hts hmode => ?_⟩
  · have hnone := Part.judge_of_none (Part.judgedBy_eq_none h)
    have hread : s.judge.table.readings[k] = { s.table.readings[k] with inTol := false } := by
      rw [hnone]
      exact (mapAll_getElem _ _ k).trans (if_pos hk)
    rw [hread, hnone]
    exact ⟨rfl, rfl, rfl⟩
  · have hby := Part.judgedBy_eq_some hts hmode
    obtain ⟨hin, hout⟩ := Part.judge_last_iff hby
    intro passes
    refine ⟨hin.trans Part.failingTowers_isEmpty, hout.trans ?_, ?_, Part.judge_inTol hby hk⟩
    · rw [Part.failingTowers_isEmpty]
      simp only [not_forall, Bool.not_eq_true, exists_prop, passes]
    · rw [Part.judge_failing hby, Part.mem_failingTowers]
      exact and_iff_right hk

end Sys2Proof.Machine
end

section
/-! SUPPORT. The record of one element, the end of a command, and raises that change nothing further, where the part is
STOPPED or HALTED. -/

namespace Sys2Proof.Machine

/-! ### Events that settle -/

/-- An event whose steps settle in p, of a command that meets the part as it stands. -/
theorem State.run_event_settled {s : State} {op : Part → Part} (h : s.part.taking) {p : Part}
    (hop : (op (s.part.setRaised [])).settle = p.setRaised []) :
    s.run (Part.event op) = .next { s with part := p.closed } := by
  rw [State.run_event h, hop, Part.drivePins_of_none rfl]
  rfl

/-- R160: class C and class D raises change nothing at rest. -/
theorem Part.settle_of_minor {s : Part} (h : s.AtRest) (hraised : ∀ r ∈ s.raised, r.cls = .c ∨ r.cls = .d) :
    s.settle = s.setRaised [] := by
  have hnone : ∀ cls, cls = .a ∨ cls = .b → s.firstOwed cls = none := fun cls hcls =>
    List.find?_eq_none.mpr fun r hr => by
      obtain hr | hr := hraised r hr <;> obtain hcls | hcls := hcls <;> rw [hr, hcls] <;> nofun
  have hdegrade : (s.setRaised []).degrade = s.setRaised [] := by
    unfold Part.degrade
    rw [Part.setRaised_seq]
    obtain h | h := h <;> rw [h]
  have hreact : s.reactOnce = s.setRaised [] := by
    rw [Part.reactOnce, hnone .a (.inl rfl), hnone .b (.inr rfl), hdegrade]
    cases s.firstOwed .c <;> rfl
  rw [Part.settle, Part.react]
  split
  next hempty =>
    rw [← List.isEmpty_iff.mp hempty]
    rfl
  next => rw [hreact]; rfl

/-- The raise of an event at rest that owes nothing yet, where it is of class C or D. -/
theorem Part.raise_settle_of_minor {s : Part} (h : s.AtRest) {kind : FaultKind} {o : FaultObject} {cls : FaultClass}
    (hcls : cls = .c ∨ cls = .d) (hroom : s.room kind o) :
    ((s.setRaised []).raise kind o cls).settle = (s.recorded kind o cls).setRaised [] := by
  rw [Part.raise_eq (s := s.setRaised []) hroom]
  refine Part.settle_of_minor (h.of_mode rfl) fun r hr => ?_
  rw [List.mem_singleton.mp hr]
  exact hcls

theorem Part.classBC_of_rest {s : Part} (h : s.AtRest) : s.classBC = .c := by
  rw [Part.classBC, Part.isChanging, h.change?]
  rfl

theorem Part.classCD_of_rest {s : Part} (h : s.AtRest) : s.classCD = .d := by
  rw [Part.classCD, Part.isInPattern]
  obtain h | h := h <;> rw [h] <;> rfl

/-! ### The record of one element -/

theorem Part.modifyElem_getElem (s : Part) (e : Elem) (f : ElemRecord → ElemRecord) :
    (s.modifyElem e f).elems[e] = f s.elems[e] :=
  (getElem_setAt _ _ _ _).trans (if_pos rfl)

theorem Part.modifyElem_modifyElem (s : Part) (e : Elem) (f g : ElemRecord → ElemRecord) :
    (s.modifyElem e f).modifyElem e g = s.modifyElem e fun r => g (f r) := by
  have hread := s.modifyElem_getElem e f
  have hset : setAt (s.modifyElem e f).elems e (g (s.modifyElem e f).elems[e]) = setAt s.elems e (g (f s.elems[e])) := by
    rw [hread]
    exact Vector.set_set ..
  exact congrArg s.setElems hset

/-- Two rewritings that agree on the record as it stands. -/
theorem Part.modifyElem_congr {s : Part} {e : Elem} {f g : ElemRecord → ElemRecord} (h : f s.elems[e] = g s.elems[e]) :
    s.modifyElem e f = s.modifyElem e g := by
  rw [Part.modifyElem, h, Part.modifyElem]

/-- R155: an end of a condition that no ACTIVE record stands for. -/
theorem Part.endCondition_of_none {s : Part} {k : FaultKind} {o : FaultObject}
    (h : ∀ r ∈ s.faults.records, ¬(r.active = true ∧ r.kind = k ∧ r.object = o)) : s.endCondition k o = s := by
  have hends : ∀ r ∈ s.faults.records, (r.active && (r.kind == k && r.object == o)) = false := fun r hr => by
    rw [← Bool.not_eq_true]
    simpa only [Bool.and_eq_true, beq_iff_eq] using h r hr
  have hmap : (s.faults.records.map fun r =>
      if (r.active && (r.kind == k && r.object == o)) = true then { r with active := false } else r) =
      s.faults.records :=
    (List.map_congr_left fun r hr => if_neg (by rw [hends r hr]; nofun)).trans (List.map_id _)
  have hany : (s.faults.records.any fun r => (r.active && (r.kind == k && r.object == o)) && r.cls == .c) = false :=
    List.any_eq_false.mpr fun r hr => by rw [hends r hr]; nofun
  rw [Part.endCondition, Part.endRecords]
  dsimp only
  rw [hmap, hany, Bool.and_false]
  rfl

/-! ### The end of a command (R107) -/

/-- R64, R105, R107, R121: what the end of a command leaves at rest, before its fault is raised. -/
def Part.commandEnded (s : Part) (e : Elem) (c : Command) (fault : Option FaultKind) : Part :=
  if c.order.isContact then s.dropCommand e c fault else (s.dropCommand e c fault).abandonRound

theorem Part.commandEnded_contact {c : Command} {a : Contact} (h : c.order = .contact a) (s : Part) (e : Elem)
    (fault : Option FaultKind) :
    s.commandEnded e c fault =
      (s.modifyElem e fun r =>
        { r with command := none, expired := (fault.bind (Order.contact a).expires).or r.expired }).disown e := by
  rw [Part.commandEnded, Part.dropCommand, h]
  rfl

theorem Part.commandEnded_position {c : Command} {n : Nat} (h : c.order = .position n) (s : Part) (e : Elem)
    (fault : Option FaultKind) :
    s.commandEnded e c fault =
      ((s.modifyElem e fun r => { r with command := none, settleCount := 0 }).disown e).abandonRound := by
  rw [Part.commandEnded, Part.dropCommand, h]
  cases fault <;> rfl

/-- R107: at rest the end of a command tells no engine anything. -/
theorem Part.endCommand_told {s : Part} (h : s.AtRest) {e : Elem} {c : Command} (fault : Option FaultKind) :
    (if c.order.isContact then (s.dropCommand e c fault).walkHears e fault.isSome
      else ((s.dropCommand e c fault).trimHears e).abandonRound.testPresets) = s.commandEnded e c fault := by
  have hnone : (s.dropCommand e c fault).change? = none := h.change?
  have hwalk : (s.dropCommand e c fault).walkHears e fault.isSome = s.dropCommand e c fault := by
    rw [Part.walkHears, hnone]
  have htrim : (s.dropCommand e c fault).trimHears e = s.dropCommand e c fault := by
    rw [Part.trimHears, hnone]
  have htest : (s.dropCommand e c fault).abandonRound.testPresets = (s.dropCommand e c fault).abandonRound := by
    rw [Part.testPresets, show (s.dropCommand e c fault).abandonRound.change? = none from hnone]
  rw [hwalk, htrim, htest, Part.commandEnded]

/-- R107: a command completed at rest. -/
theorem Part.endCommand_completed {s : Part} (h : s.AtRest) {e : Elem} {c : Command}
    (hc : s.elems[e].command = some c) : s.endCommand e none = s.commandEnded e c none := by
  rw [Part.endCommand, hc]
  exact Part.endCommand_told h none

theorem Part.commandEnded_mode (s : Part) (e : Elem) (c : Command) (fault : Option FaultKind) :
    (s.commandEnded e c fault).seq.mode = s.seq.mode := by
  unfold Part.commandEnded
  split <;> rfl

/-- R107, R151: a command that ends with a fault at rest. -/
theorem Part.endCommand_failed {s : Part} (h : s.AtRest) {e : Elem} {c : Command}
    (hc : s.elems[e].command = some c) (k : FaultKind) :
    s.endCommand e (some k) = (s.commandEnded e c (some k)).raise k (.element e) .c := by
  have hclass := Part.classBC_of_rest (h.of_mode (s.commandEnded_mode e c (some k)))
  rw [Part.endCommand, hc]
  dsimp only
  rw [Part.endCommand_told h, hclass]

theorem Part.commandEnded_setRaised (s : Part) (e : Elem) (c : Command) (fault : Option FaultKind) (l : List Raised) :
    (s.setRaised l).commandEnded e c fault = (s.commandEnded e c fault).setRaised l := by
  unfold Part.commandEnded
  split <;> rfl

theorem Part.commandEnded_faults (s : Part) (e : Elem) (c : Command) (fault : Option FaultKind) :
    (s.commandEnded e c fault).faults = s.faults := by
  unfold Part.commandEnded
  split <;> rfl

/-- R107, R160: an event at rest in which a command ends with a fault, and nothing else is raised. -/
theorem Part.endCommand_settles {s : Part} (h : s.AtRest) {e : Elem} {c : Command}
    (hc : s.elems[e].command = some c) {k : FaultKind} (hroom : s.room k (.element e)) :
    ((s.setRaised []).endCommand e (some k)).settle =
      ((s.commandEnded e c (some k)).recorded k (.element e) .c).setRaised [] := by
  rw [Part.endCommand_failed (s := s.setRaised []) h hc, Part.commandEnded_setRaised]
  refine Part.raise_settle_of_minor (h.of_mode (s.commandEnded_mode e c (some k))) (.inl rfl) ?_
  rw [Part.room, Part.commandEnded_faults]
  exact hroom

end Sys2Proof.Machine
end

section
/-! PROOFS. Command deadlines and silence deadlines. -/

namespace Sys2Proof.Machine

/-! ### Command deadlines (R105) -/

/-- R102: the frame of a contactor's order. -/
theorem Part.orderFrame_contact (s : Part) (e : Elem) (a : Contact) :
    s.orderFrame e (.contact a) =
      { dst := BitVec.ofNat 8 (s.bank.elemNode e), src := 0, kind := 4,
        payload := [BitVec.ofNat 8 (s.bank.elemChannel e), if a = .opened then 1 else 2, 0, 0] } := by
  cases a <;> rfl

/-- R102: the operate timeout stands in the element's entry. -/
theorem Bank.operateTimeout_eq (b : Bank) (e : Elem) : b.operateTimeout e = 10 * b.u8 (130 + 8 * e.val) := by
  rw [Bank.operateTimeout, elemAddr, Nat.add_right_comm]

/-- R105, R173: a command that is resent, its frame placed behind the frame in transmission. -/
theorem Part.commandExpires_resent {s : Part} {e : Elem} {c : Command} {a : Contact} (ha : c.order = .contact a)
    (horigin : c.origin = .part) (hretry : s.bank.elemRetry e = true) (hfirst : c.retries = 0)
    (hguard : s.guardHolds = true) (hbusy : s.fieldBusy) :
    s.commandExpires e c = (s.modifyElem e fun r =>
      { r with
        command := some { c with retries := 1, deadline := after s.uptime (s.bank.operateTimeout e) } }).setField
      { s.field with
        commands := placeCommand s.field.commands { elem := e, order := c.order, frame := s.orderFrame e c.order } } := by
  unfold Part.commandExpires
  split
  next ho => rw [ha] at ho; nomatch ho
  next => exact (if_pos ⟨horigin, hretry, hfirst, hguard⟩).trans (Part.fieldKick_of_busy hbusy)

/-- R105: a contactor's command that is not resent. -/
theorem Part.commandExpires_contact {s : Part} {e : Elem} {c : Command} {a : Contact} (ha : c.order = .contact a)
    (h : c.origin = .station ∨ s.bank.elemRetry e = false ∨ c.retries ≠ 0 ∨ s.ramp.inhibit = false ∨
      s.table.quiet = false) : s.commandExpires e c = s.endCommand e (some .contactTimeout) := by
  unfold Part.commandExpires
  split
  next ho => rw [ha] at ho; nomatch ho
  next =>
    refine if_neg fun ⟨horigin, hretry, hfirst, hguard⟩ => ?_
    obtain ⟨hinhibit, hquiet⟩ := Bool.and_eq_true_iff.mp hguard
    simp [horigin, hretry, hfirst, hinhibit, hquiet] at h

theorem Part.commandExpires_position {s : Part} {e : Elem} {c : Command} {n : Nat} (hn : c.order = .position n) :
    s.commandExpires e c = s.endCommand e (some .actuatorTimeout) := by
  rw [Part.commandExpires, hn]

/-- R105: the deadline of a command in flight is its event. -/
theorem Part.commandDue_eq {s : Part} {e : Elem} {c : Command} (hc : s.elems[e].command = some c) :
    s.commandDue e = (s.atExpiry c.deadline).commandExpires e c := by
  rw [Part.commandDue, hc, ← Part.atDeadline_eq]

theorem Part.atExpiry_setRaised (s : Part) (d : Uptime) (l : List Raised) :
    (s.setRaised l).atExpiry d = (s.atExpiry d).setRaised l := by
  rw [Part.atExpiry_eq, Part.atExpiry_eq]
  rfl

/-- R105, R107: the event of a deadline whose command ends with a fault at rest. -/
theorem exec_commandDeadline_failed {s : State} {e : Elem} {c : Command} (h : s.part.taking)
    (hc : s.part.elems[e].command = some c) {k : FaultKind} {p q : Part} (hp : s.part.atExpiry c.deadline = p)
    (hrest : p.AtRest) (hcp : p.elems[e].command = some c)
    (hfails : (p.setRaised []).commandExpires e c = (p.setRaised []).endCommand e (some k))
    (hroom : p.room k (.element e)) (hq : p.commandEnded e c (some k) = q) :
    exec (.commandDeadline e) s = .next { s with part := (q.recorded k (.element e) .c).closed } := by
  refine State.run_event_settled (op := fun s => s.commandDue e) h ?_
  rw [Part.commandDue_eq (s := s.part.setRaised []) hc, Part.atExpiry_setRaised, hp, hfails,
    Part.endCommand_settles hrest hcp hroom, hq]

/-! ### Silence (R100, R101) -/

theorem Part.silent_contactor {s : Part} {e : Elem} (h : s.bank.elemKind e = .contactor)
    (hc : s.elems[e].contact ≠ .unknown) : s.silent e = false := by
  rw [Part.silent, h, Bool.and_eq_false_iff]
  exact .inr (beq_eq_false_iff_ne.mpr hc)

theorem Part.silent_actuator {s : Part} {e : Elem} (h : s.bank.elemKind e = .actuator)
    (hm : s.elems[e].motion ≠ .unknown) : s.silent e = false := by
  rw [Part.silent, h, Bool.and_eq_false_iff]
  exact .inr (beq_eq_false_iff_ne.mpr hm)

/-- R100: the silence deadline of an element that has reported. -/
theorem Part.silenceExpires_eq {s : Part} {e : Elem} {u : Uptime} (hu : s.elems[e].lastReport = some u)
    (hkind : s.bank.elemKind e ≠ .absent) (hsilent : s.silent e = false) :
    s.silenceExpires e = (s.atExpiry (u + 500)).fallSilent e := by
  rw [Part.silenceExpires, Part.silenceDeadline, hsilent, if_neg Bool.false_ne_true, if_neg hkind, hu,
    ← Part.atDeadline_eq]
  rfl

/-- R101: what the event of a silence deadline leaves at rest. -/
theorem exec_silenceDeadline_falls {s : State} {e : Elem} {u : Uptime} (h : s.part.taking)
    (hu : s.part.elems[e].lastReport = some u) (hkind : s.part.bank.elemKind e ≠ .absent)
    (hsilent : s.part.silent e = false) {p q : Part} (hp : s.part.atExpiry (u + 500) = p) (hrest : q.AtRest)
    (hq : (p.setRaised []).fallSilent e = (q.setRaised []).raise .elementSilent (.element e) q.classCD)
    (hroom : q.room .elementSilent (.element e)) :
    exec (.silenceDeadline e) s = .next { s with part := (q.recorded .elementSilent (.element e) .d).closed } := by
  refine State.run_event_settled (op := fun s => s.silenceExpires e) h ?_
  rw [Part.silenceExpires_eq (s := s.part.setRaised []) hu hkind hsilent, Part.atExpiry_setRaised, hp, hq,
    Part.classCD_of_rest hrest]
  exact Part.raise_settle_of_minor hrest (.inr rfl) hroom

/-- Settles O38: a resend hands over a frame and raises nothing; the other ends raise one fault, which at rest is recorded
only. -/
theorem elementDeadlinesEndCommandsAndReports : Obligations.ElementDeadlinesEndCommandsAndReports := by
  refine ⟨fun e c a s h hbusy hc ha horigin hfirst hretry hinhibit hquiet => ?_,
    fun e c s h hmode hc => ?_, fun e u s h hmode hu hroom => ?_⟩
  · intro p f
    obtain ⟨now, hp⟩ : ∃ now, p = s.part.setUptime now := ⟨_, Part.atExpiry_eq _ _⟩
    refine State.run_event_of_none (op := fun s => s.commandDue e) h ?_
    rw [Part.commandDue_eq (s := s.part.setRaised []) hc, Part.atExpiry_setRaised]
    change (p.setRaised []).commandExpires e c = _
    clear_value p
    subst hp
    have hguard : s.part.guardHolds = true := Bool.and_eq_true_iff.mpr ⟨hinhibit, hquiet⟩
    rw [Part.commandExpires_resent (s := (s.part.setUptime now).setRaised []) ha horigin hretry hfirst hguard hbusy,
      ha, Part.orderFrame_contact, Bank.operateTimeout_eq]
    rfl
  · intro p q
    obtain ⟨now, hp⟩ : ∃ now, p = s.part.setUptime now := ⟨_, Part.atExpiry_eq _ _⟩
    have hexpiry : s.part.atExpiry c.deadline = p := rfl
    clear_value p
    subst hp
    refine ⟨fun a ha hlast hroom => ?_, fun n hn hroom => ?_⟩
    · refine exec_commandDeadline_failed h hc hexpiry (.inl hmode) hc (Part.commandExpires_contact ha hlast) hroom ?_
      rw [Part.commandEnded_contact ha]
      rfl
    · refine exec_commandDeadline_failed h hc hexpiry (.inl hmode) hc (Part.commandExpires_position hn) hroom ?_
      rw [Part.commandEnded_position hn]
      rfl
  · intro p
    obtain ⟨now, hp⟩ : ∃ now, p = s.part.setUptime now := ⟨_, Part.atExpiry_eq _ _⟩
    have hexpiry : s.part.atExpiry (u + 500) = p := rfl
    clear_value p
    subst hp
    refine ⟨fun hkind hcontact => ?_, fun hkind hmotion => ?_⟩
    · refine exec_silenceDeadline_falls h hu (by rw [hkind]; nofun) (Part.silent_contactor hkind hcontact) hexpiry
        (.inl hmode) ?_ hroom
      rw [Part.fallSilent, show ((s.part.setUptime now).setRaised []).bank.elemKind e = _ from hkind]
      rfl
    · refine exec_silenceDeadline_falls h hu (by rw [hkind]; nofun) (Part.silent_actuator hkind hmotion) hexpiry
        (.inl hmode) ?_ hroom
      rw [Part.fallSilent, show ((s.part.setUptime now).setRaised []).bank.elemKind e = _ from hkind]
      rfl

end Sys2Proof.Machine
end

section
/-! PROOFS. STATE frames. -/

namespace Sys2Proof.Machine

/-! ### The disposal of a STATE frame of one entry (R98, R167) -/

/-- R167: the copy of a STATE frame of one entry. -/
def stateCopy (src ch code hi lo : Byte) : Frame := { dst := 30, src := src, kind := 3, payload := [ch, code, hi, lo] }

theorem Part.takeState_one (src ch code hi lo : Byte) (s : Part) :
    s.takeState { dst := 0, src := src, kind := 3, payload := [ch, code, hi, lo] } =
      (s.stateEntry src ch.toNat code.toNat (256 * hi.toNat + lo.toNat)).queueStation .field
        (stateCopy src ch code hi lo) := by
  have hlength : [ch, code, hi, lo].length % 4 = 0 := Nat.mod_self 4
  rw [Part.takeState, if_pos hlength, Part.stateEntries, Part.stateEntries]
  · rfl
  · nofun

/-- R98, R150, R167: a STATE frame at a Field Port that is UP whose one entry leaves p, and its copy. -/
theorem exec_stateFrame_of_entry {src ch code hi lo : Byte} {s : State} {p : Part} (h : s.part.taking)
    (hup : s.part.field.link.up = true)
    (hentry : (s.part.fieldHeard.setRaised []).stateEntry src ch.toNat code.toNat (256 * hi.toNat + lo.toNat) =
      p.setRaised []) (hbusy : p.stationBusy) :
    exec (.stateFrame src [ch, code, hi, lo]) s =
      .next { s with part := (p.relayed .field (stateCopy src ch code hi lo)).closed } := by
  have hreceive : (s.part.setRaised []).receiveField
      { dst := 0, src := src, kind := FrameKind.state.code, payload := [ch, code, hi, lo] } =
      ((s.part.setRaised []).linkAlive .field).takeState
        { dst := 0, src := src, kind := 3, payload := [ch, code, hi, lo] } := rfl
  refine State.run_event_of_none h (hreceive.trans ?_)
  rw [Part.linkAlive_field (s := s.part.setRaised []) hup, Part.takeState_one]
  refine (congrArg (fun q : Part => q.queueStation .field (stateCopy src ch code hi lo)) hentry).trans ?_
  rw [Part.queueStation_eq (s := p.setRaised []) hbusy, Part.setRaised_relayed]

section
variable {s : Part} {node : Byte} {channel : Nat} {e : Elem} (he : s.bank.findElem node.toNat channel = some e)
include he

/-- R98, R99: an entry of a contactor. -/
theorem Part.stateEntry_contact (hkind : s.bank.elemKind e = .contactor) {code : Nat} {x : ContactState}
    (hx : contactCode code = some x) (pos : Nat) : s.stateEntry node channel code pos = (s.applyContact e x).settle := by
  rw [Part.stateEntry, he]
  dsimp only
  rw [hkind]
  dsimp only
  rw [hx]

/-- R98, R99: an entry of an actuator. -/
theorem Part.stateEntry_motion (hkind : s.bank.elemKind e = .actuator) {code : Nat} {m : Motion}
    (hm : motionCode code = some m) (pos : Nat) :
    s.stateEntry node channel code pos = (s.applyMotion e m pos).settle := by
  rw [Part.stateEntry, he]
  dsimp only
  rw [hkind]
  dsimp only
  rw [hm]

/-- R98: an entry of a code that is not the element's. -/
theorem Part.stateEntry_ignored {code : Nat} (h : s.bank.elemKind e = .actuator ∧ motionCode code = none ∨
    s.bank.elemKind e = .contactor ∧ contactCode code = none) (pos : Nat) :
    s.stateEntry node channel code pos = s := by
  rw [Part.stateEntry, he]
  dsimp only
  obtain ⟨hkind, hcode⟩ | ⟨hkind, hcode⟩ := h <;> rw [hkind] <;> dsimp only <;> rw [hcode]

end

/-- R98: an entry of no element. -/
theorem Part.stateEntry_unknown {s : Part} {node : Byte} {channel : Nat}
    (he : s.bank.findElem node.toNat channel = none) (code pos : Nat) : s.stateEntry node channel code pos = s := by
  rw [Part.stateEntry, he]

theorem contactCode_eq_none {code : Byte} (h : code = 0 ∨ 4 < code.toNat) : contactCode code.toNat = none := by
  obtain rfl | h := h
  · rfl
  · unfold contactCode
    split
    next h1 => omega
    next h2 => omega
    next h3 => omega
    next h4 => omega
    next => rfl

theorem motionCode_eq_none {code : Byte} (h3 : code ≠ 3) (h5 : code ≠ 5) (h6 : code ≠ 6) :
    motionCode code.toNat = none := by
  have hne : ∀ n : Byte, code ≠ n → code.toNat ≠ n.toNat := fun n h heq => h (BitVec.eq_of_toNat_eq heq)
  unfold motionCode
  split
  next h => exact absurd h (hne 3 h3)
  next h => exact absurd h (hne 5 h5)
  next h => exact absurd h (hne 6 h6)
  next => rfl

/-! ### Contactors (R99, R103, R108) -/

/-- R99: the part with a contactor's reported state and the time of the report written. -/
def Part.contactReported (s : Part) (e : Elem) (x : ContactState) : Part :=
  s.modifyElem e fun r => { r with contact := x, lastReport := some s.uptime }

/-- R99: the part with an actuator's motion and position and the time of the report written. -/
def Part.motionReported (s : Part) (e : Elem) (m : Motion) (pos : Nat) : Part :=
  s.modifyElem e fun r => { r with motion := m, position := some pos, lastReport := some s.uptime }

theorem Part.contactReported_command (s : Part) (e : Elem) (x : ContactState) :
    (s.contactReported e x).elems[e].command = s.elems[e].command := by
  rw [Part.contactReported, Part.modifyElem_getElem]

theorem Part.motionReported_command (s : Part) (e : Elem) (m : Motion) (pos : Nat) :
    (s.motionReported e m pos).elems[e].command = s.elems[e].command := by
  rw [Part.motionReported, Part.modifyElem_getElem]

/-- R99: the part with a contactor's reported state and the time of the report written, and no command in flight. -/
def Part.contactSettled (s : Part) (e : Elem) (x : ContactState) : Part :=
  s.modifyElem e fun r => { r with contact := x, lastReport := some s.uptime, command := none }

/-- R99: the part with a report of OPEN or CLOSED written, and neither a command in flight nor an expired request. -/
def Part.contactTaken (s : Part) (e : Elem) (x : ContactState) : Part :=
  s.modifyElem e fun r => { r with contact := x, lastReport := some s.uptime, command := none, expired := none }

theorem Part.contactSettled_unexpired (s : Part) (e : Elem) (x : ContactState) :
    ((s.contactSettled e x).modifyElem e fun r => { r with expired := none }) = s.contactTaken e x :=
  Part.modifyElem_modifyElem ..

theorem Part.contactReported_of_none {s : Part} {e : Elem} (hc : s.elems[e].command = none) (x : ContactState) :
    s.contactReported e x = s.contactSettled e x :=
  Part.modifyElem_congr (by rw [← hc])

/-- R107: the end of a contactor's command that a report has met, where it is no deadline that ends it. -/
theorem Part.contactReported_ended {c : Command} {a : Contact} (ha : c.order = .contact a) {fault : Option FaultKind}
    (hfault : fault.bind (Order.contact a).expires = none) (s : Part) (e : Elem) (x : ContactState) :
    (s.contactReported e x).commandEnded e c fault = (s.contactSettled e x).disown e := by
  rw [Part.commandEnded_contact ha, hfault, Part.contactReported, Part.modifyElem_modifyElem]
  rfl

theorem Part.disown_modifyElem (s : Part) (e : Elem) (f : ElemRecord → ElemRecord) :
    (s.disown e).modifyElem e f = (s.modifyElem e f).disown e := rfl

section
variable {s : Part} {e : Elem}
  (hsilent : ∀ r ∈ s.faults.records, ¬(r.active = true ∧ r.kind = .elementSilent ∧ r.object = .element e))
include hsilent

/-- R99, R100: a report is written, where no silence of the element ends. -/
theorem Part.report_of_none (f : ElemRecord → ElemRecord) :
    (s.modifyElem e f).endCondition .elementSilent (.element e) = s.modifyElem e f :=
  Part.endCondition_of_none hsilent

/-- R99, R103, R108: a report of OPEN or CLOSED that is no drift and meets no command. -/
theorem Part.applyContact_idle (hc : s.elems[e].command = none) {x : ContactState} {a : Contact} (hx : x.known = some a)
    (hdrift : s.elems[e].drifts x = false) :
    s.applyContact e x = s.contactTaken e x := by
  have hfault : ¬(x = .fault ∧ s.elems[e].contact ≠ .fault) := fun h => by rw [h.1] at hx; nomatch hx
  have hknown : x.known.isSome = true := by rw [hx]; rfl
  unfold Part.applyContact
  dsimp only
  rw [hc, Part.report_of_none hsilent, hdrift]
  dsimp only
  rw [if_neg hfault, if_pos hknown, if_neg Bool.false_ne_true, ← Part.contactReported, Part.contactReported_of_none hc,
    Part.contactSettled_unexpired]

/-- R99, R103, R107: a report that completes the command in flight at rest. -/
theorem Part.applyContact_completes (hrest : s.AtRest) {k : Command} (hc : s.elems[e].command = some k)
    {a : Contact} (ha : k.order = .contact a) {x : ContactState} (hx : x.known = some a) :
    s.applyContact e x = (s.contactTaken e x).disown e := by
  have hfault : x ≠ .fault := fun h => by rw [h] at hx; nomatch hx
  have hknown : x.known.isSome = true := by rw [hx]; rfl
  have hasked : x.known.map Order.contact = some k.order := by rw [hx, ha]; rfl
  have hdrift : s.elems[e].drifts x = false := by
    rw [ElemRecord.drifts, hx, hc]
    simp
  have hended := (Part.endCommand_completed (s := s.contactReported e x) hrest
    ((s.contactReported_command e x).trans hc)).trans (Part.contactReported_ended ha rfl s e x)
  unfold Part.applyContact
  dsimp only
  rw [hc, Part.report_of_none hsilent, hdrift]
  dsimp only
  rw [if_neg hfault, if_pos hasked, if_pos hknown, if_neg Bool.false_ne_true, ← Part.contactReported, hended,
    Part.disown_modifyElem, Part.contactSettled_unexpired]

/-- R103, R151: a report of FAULT with no command in flight at rest raises CONTACT_FAULT where it is a change. -/
theorem Part.applyContact_fault_idle (hrest : s.AtRest) (hc : s.elems[e].command = none) :
    s.applyContact e .fault =
      if s.elems[e].contact ≠ .fault then (s.contactSettled e .fault).raise .contactFault (.element e) .c
      else s.contactSettled e .fault := by
  have hclass : (s.contactSettled e .fault).classBC = .c := Part.classBC_of_rest hrest
  unfold Part.applyContact
  dsimp only
  rw [hc, Part.report_of_none hsilent, ← Part.contactReported, Part.contactReported_of_none hc, hclass]
  simp only [true_and]
  rfl

/-- R103, R107: a report of FAULT ends the command in flight. -/
theorem Part.applyContact_fault {k : Command} (hc : s.elems[e].command = some k) :
    s.applyContact e .fault = (s.contactReported e .fault).endCommand e (some .contactFault) := by
  unfold Part.applyContact
  dsimp only
  rw [hc, Part.report_of_none hsilent]
  rfl

/-- R103, R107: what a report of FAULT that ends a command leaves at rest. -/
theorem Part.applyContact_fault_ends (hrest : s.AtRest) {k : Command} (hc : s.elems[e].command = some k) {a : Contact}
    (ha : k.order = .contact a) (hroom : s.room .contactFault (.element e)) :
    ((s.setRaised []).applyContact e .fault).settle =
      (((s.contactSettled e .fault).disown e).recorded .contactFault (.element e) .c).setRaised [] := by
  rw [Part.applyContact_fault (s := s.setRaised []) hsilent hc,
    ← Part.contactReported_ended (fault := some .contactFault) ha rfl]
  exact Part.endCommand_settles (s := s.contactReported e .fault) hrest ((s.contactReported_command e _).trans hc) hroom

/-- R103: what a report of FAULT that is a change leaves at rest. -/
theorem Part.applyContact_fault_changes (hrest : s.AtRest) (hc : s.elems[e].command = none)
    (hstood : s.elems[e].contact ≠ .fault) (hroom : s.room .contactFault (.element e)) :
    ((s.setRaised []).applyContact e .fault).settle =
      ((s.contactSettled e .fault).recorded .contactFault (.element e) .c).setRaised [] := by
  rw [Part.applyContact_fault_idle (s := s.setRaised []) hsilent hrest hc]
  refine (congrArg Part.settle (if_pos hstood)).trans ?_
  exact Part.raise_settle_of_minor (s := s.contactSettled e .fault) hrest (.inl rfl) hroom

/-! ### Actuators (R99, R104) -/

/-- R99: a report that meets no command. -/
theorem Part.applyMotion_idle (hc : s.elems[e].command = none) (m : Motion) (pos : Nat) :
    s.applyMotion e m pos = s.motionReported e m pos := by
  unfold Part.applyMotion
  dsimp only
  rw [hc, Part.report_of_none hsilent]
  rfl

/-- R104: what a report means to the position command it meets. -/
theorem Part.applyMotion_command {c : Command} {n : Nat} (hc : s.elems[e].command = some c)
    (hn : c.order = .position n) (pos : Nat) :
    s.applyMotion e .moving pos = s.motionReported e .moving pos ∧
      s.applyMotion e .atRest pos =
        (if levelGap pos n ≤ s.bank.posDeadband e then (s.motionReported e .atRest pos).endCommand e none
          else s.motionReported e .atRest pos) ∧
      s.applyMotion e .stalled pos = (s.motionReported e .stalled pos).endCommand e (some .actuatorStall) := by
  unfold Part.applyMotion
  dsimp only
  rw [hc, Part.report_of_none hsilent, Part.report_of_none hsilent, Part.report_of_none hsilent]
  dsimp only
  rw [hn]
  exact ⟨rfl, rfl, rfl⟩

end

/-- R104: the position deadband, met from either side. -/
theorem levelGap_le_iff (a b d : Nat) : levelGap a b ≤ d ↔ a ≤ b + d ∧ b ≤ a + d := by
  unfold levelGap
  omega

/-- R97, R108: a report of the state a contactor stood in, or of an expired request, is no drift, nor is any report by a
contactor that stood UNKNOWN or in FAULT. -/
theorem ElemRecord.drifts_eq_false {r : ElemRecord} {x : ContactState}
    (h : r.contact = x ∨ r.contact = .unknown ∨ r.contact = .fault ∨ r.expired = some .opened ∧ x = .opened ∨
      r.expired = some .closed ∧ x = .closed) : r.drifts x = false := by
  unfold ElemRecord.drifts
  split
  next => rfl
  next a hknown =>
    obtain h | h | h | ⟨hexpired, rfl⟩ | ⟨hexpired, rfl⟩ := h
    · simp [h]
    · simp [h]
    · simp [h]
    · simp [hexpired, ← Option.some.inj hknown]
    · simp [hexpired, ← Option.some.inj hknown]

/-- R170: no queued frame is disowned where no command ends. -/
theorem disowned_of_none (l : List FieldItem) (e : Elem) :
    (l.map fun y : FieldItem => if (none : Option Command) ≠ none ∧ y.owner = some e then { y with owner := none } else y) =
      l := by
  simp

/-- R98, R99, R108: OPEN and CLOSED, as a code and as a reported state. -/
theorem contactCode_of_known {code : Byte} {x : ContactState} (h : code = 1 ∧ x = .opened ∨ code = 2 ∧ x = .closed) :
    contactCode code.toNat = some x ∧ ∃ a, x.known = some a := by
  obtain ⟨rfl, rfl⟩ | ⟨rfl, rfl⟩ := h
  · exact ⟨rfl, .opened, rfl⟩
  · exact ⟨rfl, .closed, rfl⟩

theorem motionCode_of_reported {code : Byte} {m : Motion}
    (h : code = 3 ∧ m = .moving ∨ code = 5 ∧ m = .atRest ∨ code = 6 ∧ m = .stalled) :
    motionCode code.toNat = some m := by
  obtain ⟨rfl, rfl⟩ | ⟨rfl, rfl⟩ | ⟨rfl, rfl⟩ := h <;> rfl

/-- R64, R104, R121: the part with a report written that has ended a position command. -/
def Part.motionEnded (s : Part) (e : Elem) (m : Motion) (pos : Nat) : Part :=
  { s with
    elems := s.elems.set e.val
      { s.elems[e] with
        motion := m, position := some pos, lastReport := some s.uptime, command := none, settleCount := 0 }
    round := { s.round with coverage := [] }
    field :=
      { s.field with
        queue := s.field.queue.map fun y : FieldItem => if y.owner = some e then { y with owner := none } else y } }

theorem Part.motionReported_ended {c : Command} {n : Nat} (hn : c.order = .position n) (s : Part) (e : Elem)
    (m : Motion) (pos : Nat) (fault : Option FaultKind) :
    (s.motionReported e m pos).commandEnded e c fault = s.motionEnded e m pos := by
  rw [Part.commandEnded_position hn, Part.motionReported, Part.modifyElem_modifyElem]
  rfl

/-- Settles O36: what an entry means to its element is followed to the end of the command it meets, at rest where there is
one; the one raise of an entry is recorded only. -/
theorem stateReportsAreTaken : Obligations.StateReportsAreTaken := by
  refine ⟨fun src ch code hi lo e x s h hup hbusy he hkind hcode hsilent => ?_,
    fun src ch hi lo e s h hup hbusy hmode he hkind hsilent => ?_,
    fun src ch code hi lo s h hup hbusy => ?_⟩
  · intro r asked p hmeets
    obtain ⟨hx, a, hknown⟩ := contactCode_of_known hcode
    refine exec_stateFrame_of_entry (p := p) h hup ?_ hbusy
    rw [Part.stateEntry_contact (s := s.part.fieldHeard.setRaised []) he hkind hx]
    obtain ⟨hc, hstood⟩ | ⟨⟨k, hc, horder⟩, hrest⟩ := hmeets
    · rw [Part.applyContact_idle (s := s.part.fieldHeard.setRaised []) hsilent hc hknown
        (ElemRecord.drifts_eq_false hstood)]
      refine (Part.settle_of_none rfl).trans ?_
      simp only [p, r, hc, disowned_of_none]
      rfl
    · have ha : k.order = .contact a := by
        obtain ⟨rfl, horder⟩ | ⟨rfl, horder⟩ := horder
        · rw [horder, ← Option.some.inj hknown]
        · rw [horder, ← Option.some.inj hknown]
      rw [Part.applyContact_completes (s := s.part.fieldHeard.setRaised []) hsilent hrest hc ha hknown]
      refine (Part.settle_of_none rfl).trans ?_
      simp only [p, r, hc, ne_eq, reduceCtorEq, not_false_eq_true, true_and]
      rfl
  · intro r p done
    have hentry := fun pos => Part.stateEntry_contact (s := s.part.fieldHeard.setRaised []) (code := 4) he hkind rfl pos
    refine ⟨fun hc hstood => ?_, fun hmeets hroom => ?_⟩
    · refine exec_stateFrame_of_entry (p := p) h hup ((hentry _).trans ?_) hbusy
      rw [Part.applyContact_fault_idle (s := s.part.fieldHeard.setRaised []) hsilent (.inl hmode) hc]
      refine (congrArg Part.settle (if_neg (not_not.mpr hstood))).trans ((Part.settle_of_none rfl).trans ?_)
      simp only [p, r, hc, disowned_of_none]
      rfl
    · refine exec_stateFrame_of_entry (p := p.recorded .contactFault (.element e) .c) h hup ((hentry _).trans ?_) hbusy
      obtain ⟨k, a, hc, ha⟩ | ⟨hc, hstood⟩ := hmeets
      · rw [Part.applyContact_fault_ends (s := s.part.fieldHeard) hsilent (.inl hmode) hc ha hroom]
        simp only [p, r, hc, ne_eq, reduceCtorEq, not_false_eq_true, true_and]
        rfl
      · rw [Part.applyContact_fault_changes (s := s.part.fieldHeard) hsilent (.inl hmode) hc hstood hroom]
        simp only [p, r, hc, disowned_of_none]
        rfl
  · intro copy
    refine ⟨fun e m he hkind hc hcode hsilent => ?_, fun e c n he hkind hc hn hmode hsilent => ?_, fun hignored => ?_⟩
    · refine exec_stateFrame_of_entry h hup ?_ hbusy
      rw [Part.stateEntry_motion (s := s.part.fieldHeard.setRaised []) he hkind (motionCode_of_reported hcode),
        Part.applyMotion_idle (s := s.part.fieldHeard.setRaised []) hsilent hc]
      exact Part.settle_of_none rfl
    · intro pos reached reported done ended
      obtain ⟨hmoving, hatRest, hstalled⟩ :=
        Part.applyMotion_command (s := s.part.fieldHeard.setRaised []) hsilent hc hn pos
      have hentry := fun m (hm : motionCode code.toNat = some m) =>
        Part.stateEntry_motion (s := s.part.fieldHeard.setRaised []) he hkind hm pos
      have hcommand := fun m => (s.part.fieldHeard.motionReported_command e m pos).trans hc
      have hreached : levelGap pos n ≤ s.part.bank.posDeadband e ↔ reached := levelGap_le_iff ..
      refine ⟨fun hcode hnear => ?_, fun hcode => ?_, fun hcode hroom => ?_⟩
      · subst hcode
        refine exec_stateFrame_of_entry (p := s.part.fieldHeard.motionEnded e .atRest pos) h hup
          ((hentry .atRest rfl).trans ?_) hbusy
        have hended : ((s.part.fieldHeard.setRaised []).motionReported e .atRest pos).endCommand e none =
            (s.part.fieldHeard.setRaised []).motionEnded e .atRest pos :=
          (Part.endCommand_completed (s := (s.part.fieldHeard.setRaised []).motionReported e .atRest pos) (.inl hmode)
            (hcommand .atRest)).trans (Part.motionReported_ended hn ..)
        rw [hatRest, hended]
        exact (congrArg Part.settle (if_pos (hreached.mpr hnear))).trans (Part.settle_of_none rfl)
      · refine exec_stateFrame_of_entry h hup ?_ hbusy
        obtain rfl | ⟨rfl, hfar⟩ := hcode
        · rw [hentry .moving rfl, hmoving]
          exact Part.settle_of_none rfl
        · rw [hentry .atRest rfl, hatRest]
          exact (congrArg Part.settle (if_neg (mt hreached.mp hfar))).trans (Part.settle_of_none rfl)
      · subst hcode
        refine exec_stateFrame_of_entry
          (p := (s.part.fieldHeard.motionEnded e .stalled pos).recorded .actuatorStall (.element e) .c) h hup
          ((hentry .stalled rfl).trans ?_) hbusy
        rw [hstalled, ← Part.motionReported_ended hn s.part.fieldHeard e .stalled pos (some .actuatorStall)]
        exact Part.endCommand_settles (s := s.part.fieldHeard.motionReported e .stalled pos) (.inl hmode)
          (hcommand .stalled) hroom
    · refine exec_stateFrame_of_entry h hup ?_ hbusy
      obtain hnone | ⟨e, he, ⟨hkind, h3, h5, h6⟩ | ⟨hkind, hcode⟩⟩ := hignored
      · exact Part.stateEntry_unknown (s := s.part.fieldHeard.setRaised []) hnone _ _
      · exact Part.stateEntry_ignored (s := s.part.fieldHeard.setRaised []) he
          (.inl ⟨hkind, motionCode_eq_none h3 h5 h6⟩) _
      · exact Part.stateEntry_ignored (s := s.part.fieldHeard.setRaised []) he
          (.inr ⟨hkind, contactCode_eq_none hcode⟩) _

end Sys2Proof.Machine
end

section
/-! SUPPORT. The class C reaction, and what the end of the event of a SAMPLE leaves where no element has a command in
flight. -/

namespace Sys2Proof.Machine

/-! ### The fault list -/

/-- Every ACTIVE record of the list `w` stands for one of `u`, of the same kind, object and class. -/
def FaultUnit.ActiveFrom (u w : FaultUnit) : Prop :=
  ∀ x ∈ w.records, x.active = true →
    ∃ y ∈ u.records, y.active = true ∧ y.kind = x.kind ∧ y.object = x.object ∧ y.cls = x.cls

theorem FaultUnit.ActiveFrom.refl (u : FaultUnit) : u.ActiveFrom u := fun x hx hactive => ⟨x, hx, hactive, rfl, rfl, rfl⟩

theorem FaultUnit.ActiveFrom.trans {u v w : FaultUnit} (h : u.ActiveFrom v) (h' : v.ActiveFrom w) : u.ActiveFrom w := by
  intro x hx hactive
  obtain ⟨y, hy, hyactive, hkind, hobject, hcls⟩ := h' x hx hactive
  obtain ⟨z, hz, hzactive, hkind', hobject', hcls'⟩ := h y hy hyactive
  exact ⟨z, hz, hzactive, hkind'.trans hkind, hobject'.trans hobject, hcls'.trans hcls⟩

/-- R155: an end of records makes none ACTIVE. -/
theorem Part.endRecords_activeFrom (s : Part) (p : FaultRecord → Bool) : s.faults.ActiveFrom (s.endRecords p).faults := by
  have hrecords : (s.endRecords p).faults.records =
      s.faults.records.map fun r => if (r.active && p r) = true then { r with active := false } else r := by
    unfold Part.endRecords
    dsimp only
    split <;> rfl
  intro x hx hactive
  rw [hrecords] at hx
  obtain ⟨y, hy, rfl⟩ := List.mem_map.mp hx
  split at hactive
  · nomatch hactive
  next hends => exact ⟨y, hy, hactive, by rw [if_neg hends], by rw [if_neg hends], by rw [if_neg hends]⟩

theorem Part.endRecords_length (s : Part) (p : FaultRecord → Bool) :
    (s.endRecords p).faults.records.length = s.faults.records.length := by
  unfold Part.endRecords
  dsimp only
  split <;> exact List.length_map ..

/-- R151 to R154: a class D raise makes no record ACTIVE and changes the class of none. -/
theorem FaultUnit.record_activeFrom (u : FaultUnit) (now : Uptime) {r : FaultRecord} (hd : r.cls = .d)
    (hended : r.active = false) : u.ActiveFrom (u.record now r) := by
  have happend : ∀ l : List FaultRecord, l ⊆ u.records → ∀ x ∈ l ++ [r], x.active = true → x ∈ u.records := by
    intro l hl x hx hactive
    obtain hx | hx := List.mem_append.mp hx
    · exact hl hx
    · rw [List.mem_singleton.mp hx, hended] at hactive
      nomatch hactive
  unfold FaultUnit.record
  split
  · intro x hx hactive
    obtain ⟨y, hy, rfl⟩ := List.mem_map.mp hx
    refine ⟨y, hy, ?_⟩
    split at hactive
    next hmatch =>
      rw [if_pos hmatch, FaultRecord.again, hd]
      exact ⟨hactive, rfl, rfl, rfl⟩
    next hmatch =>
      rw [if_neg hmatch]
      exact ⟨hactive, rfl, rfl, rfl⟩
  · intro x hx hactive
    have hold : x ∈ u.records := by
      unfold FaultUnit.place at hx
      rw [hd] at hx
      dsimp only at hx
      split at hx
      · exact happend _ (List.Subset.refl _) x hx hactive
      · split at hx
        · exact happend _ List.eraseP_subset x hx hactive
        · exact hx
    exact ⟨x, hold, hactive, rfl, rfl, rfl⟩

/-- R153: a raise takes no more than one place. -/
theorem FaultUnit.record_length_le (u : FaultUnit) (now : Uptime) (r : FaultRecord) :
    (u.record now r).records.length ≤ u.records.length + 1 := by
  have hplace : (u.place r).records.length ≤ u.records.length + 1 := by
    have herase : (u.records.eraseP FaultRecord.replaceable ++ [r]).length ≤ u.records.length + 1 := by
      rw [List.length_append]
      exact Nat.add_le_add_right List.length_eraseP_le 1
    have happend : (u.records ++ [r]).length ≤ u.records.length + 1 := List.length_append.le
    have hfull := Nat.le_succ u.records.length
    unfold FaultUnit.place
    dsimp only
    split
    · split
      · exact happend
      · exact hfull
    · split
      · exact happend
      · exact hfull
    · split
      · exact happend
      · exact hfull
    · split
      · exact happend
      · split
        · exact herase
        · exact hfull
  unfold FaultUnit.record
  split
  · rw [List.length_map]
    exact Nat.le_succ _
  · exact hplace

/-! ### The class C reaction (R95, R150, R160) -/

/-- R95, R156: the part with the reaction applied that class C raises ask for. -/
def Part.reacted (s : Part) : Part := if s.raised.any (·.cls == .c) then s.degrade else s

theorem Part.rampInPattern_setRaised (s : Part) (level : Nat) (l : List Raised) :
    (s.setRaised l).rampInPattern level = (s.rampInPattern level).setRaised l := by
  unfold Part.rampInPattern Part.testRamp
  by_cases h : (s.orderRamp level).ramp.reached = true
  · have hreached : ((s.setRaised l).orderRamp level).ramp.reached = true := h
    rw [if_pos h, if_pos hreached]
    rfl
  · have hreached : ¬((s.setRaised l).orderRamp level).ramp.reached = true := h
    rw [if_neg h, if_neg hreached]
    rfl

theorem Part.degrade_setRaised (s : Part) (l : List Raised) : (s.setRaised l).degrade = s.degrade.setRaised l := by
  unfold Part.degrade
  rw [Part.setRaised_seq]
  split
  · dsimp only [Part.setSeq_seq]
    split
    · exact Part.rampInPattern_setRaised (s.setSeq { s.seq with sub := .degraded, restore := 0 }) _ l
    · rfl
  · rfl
  · rfl
  · rfl
  · rfl

/-- R150, R156: an event that owes raises of the classes C and D only. -/
theorem Part.settle_eq_reacted {s : Part} (h : ∀ r ∈ s.raised, r.cls = .c ∨ r.cls = .d) :
    s.settle = s.reacted.setRaised [] := by
  have hnone : ∀ cls, cls = .a ∨ cls = .b → s.firstOwed cls = none := fun cls hcls =>
    List.find?_eq_none.mpr fun r hr => by
      obtain hr | hr := h r hr <;> obtain hcls | hcls := hcls <;> rw [hr, hcls] <;> nofun
  have hreact : s.reactOnce = s.reacted.setRaised [] := by
    rw [Part.reactOnce, hnone .a (.inl rfl), hnone .b (.inr rfl), Part.reacted]
    cases hc : s.firstOwed .c with
    | none =>
      have hany : (s.raised.any (·.cls == .c)) = false := List.any_eq_false.mpr (List.find?_eq_none.mp hc)
      rw [hany]
      rfl
    | some r =>
      have hcls : (r.cls == .c) = true := List.find?_some (p := fun r : Raised => r.cls == .c) hc
      have hany : (s.raised.any (·.cls == .c)) = true := List.any_eq_true.mpr ⟨r, List.mem_of_find?_eq_some hc, hcls⟩
      rw [hany]
      exact s.degrade_setRaised []
  rw [Part.settle, Part.react]
  split
  next hempty =>
    have hnil := List.isEmpty_iff.mp hempty
    have hreacted : s.reacted = s := by
      rw [Part.reacted, hnil]
      rfl
    rw [hreacted, ← hnil]
    rfl
  next => rw [hreact]; rfl

theorem Part.reacted_of_d {s : Part} (h : ∀ r ∈ s.raised, r.cls = .d) : s.reacted = s := by
  have hany : (s.raised.any (·.cls == .c)) = false := List.any_eq_false.mpr fun r hr => by rw [h r hr]; nofun
  rw [Part.reacted, hany]
  rfl

theorem Part.reacted_of_c {s : Part} {r : Raised} (hr : r ∈ s.raised) (h : r.cls = .c) : s.reacted = s.degrade := by
  have hany : (s.raised.any (·.cls == .c)) = true := List.any_eq_true.mpr ⟨r, hr, beq_iff_eq.mpr h⟩
  rw [Part.reacted, hany]
  rfl

/-! ### What goes on after a verdict -/

/-- The part `t` has the readings, the round, the sequencer, the elements, the Ramp Engine, the fault list and the tables
of `s`, and where the Station Port transmits, its MONITOR frame. -/
structure Part.SameCourse (s t : Part) : Prop where
  readings : t.table.readings = s.table.readings
  round : t.round = s.round
  seq : t.seq = s.seq
  elems : t.elems = s.elems
  ramp : t.ramp = s.ramp
  faults : t.faults = s.faults
  tables : t.tables = s.tables
  port : s.stationBusy → t.stationBusy ∧ t.station.monitor = s.station.monitor

theorem Part.SameCourse.trans {s t u : Part} (h : s.SameCourse t) (h' : t.SameCourse u) : s.SameCourse u where
  readings := h'.readings.trans h.readings
  round := h'.round.trans h.round
  seq := h'.seq.trans h.seq
  elems := h'.elems.trans h.elems
  ramp := h'.ramp.trans h.ramp
  faults := h'.faults.trans h.faults
  tables := h'.tables.trans h.tables
  port hbusy := by
    obtain ⟨hbusy', hmonitor⟩ := h.port hbusy
    obtain ⟨hbusy'', hmonitor'⟩ := h'.port hbusy'
    exact ⟨hbusy'', hmonitor'.trans hmonitor⟩

theorem Part.setTable_setStore_course {s : Part} {x : ReadingTable} (h : x.readings = s.table.readings)
    (y : PairingStore) : s.SameCourse ((s.setTable x).setStore y) :=
  ⟨h, rfl, rfl, rfl, rfl, rfl, rfl, fun hbusy => ⟨hbusy, rfl⟩⟩

theorem Part.setRaised_course (s : Part) (l : List Raised) : s.SameCourse (s.setRaised l) :=
  ⟨rfl, rfl, rfl, rfl, rfl, rfl, rfl, fun hbusy => ⟨hbusy, rfl⟩⟩

theorem Part.drivePins_course (s : Part) : s.SameCourse s.drivePins :=
  ⟨rfl, rfl, rfl, rfl, rfl, rfl, rfl, fun hbusy => ⟨hbusy, rfl⟩⟩

theorem Part.queueStation_raised (s : Part) (o : Port) (f : Frame) : (s.queueStation o f).raised = s.raised := by
  unfold Part.queueStation
  split
  · obtain ⟨z, hz⟩ := Part.stationKick_eq
      (s.setStation { s.station with queue := s.station.queue ++ [{ frame := f, rampSince := false }] })
    rw [hz]
    rfl
  · cases o <;> rfl

theorem Part.stationKick_course (s : Part) : s.SameCourse s.stationKick := by
  obtain ⟨z, hz⟩ := s.stationKick_eq
  refine ⟨?_, ?_, ?_, ?_, ?_, ?_, ?_, fun hbusy => ?_⟩
  case refine_8 =>
    rw [Part.stationKick_of_busy hbusy]
    exact ⟨hbusy, rfl⟩
  all_goals rw [hz]; rfl

/-- R170: a copy placed, or discarded. -/
theorem Part.queueStation_course (s : Part) (o : Port) (f : Frame) : s.SameCourse (s.queueStation o f) := by
  unfold Part.queueStation
  split
  · have hplaced : s.SameCourse
        (s.setStation { s.station with queue := s.station.queue ++ [{ frame := f, rampSince := false }] }) :=
      ⟨rfl, rfl, rfl, rfl, rfl, rfl, rfl, fun hbusy => ⟨hbusy, rfl⟩⟩
    exact hplaced.trans (Part.stationKick_course _)
  · cases o <;> exact ⟨rfl, rfl, rfl, rfl, rfl, rfl, rfl, fun hbusy => ⟨hbusy, rfl⟩⟩

/-- No element has a command in flight, and no change is in MUTING or SWITCHING. -/
structure Part.Calm (s : Part) : Prop where
  idle : ∀ e : Elem, s.elems[e].command = none
  phase : ∀ c, s.seq.mode = .changing c → c.phase ≠ .muting ∧ c.phase ≠ .switching

/-- R36, R80, R111, R116: QUIET's changes move nothing else of a calm part. -/
theorem Part.evaluateQuiet_calm {s : Part} (h : s.Calm) :
    s.evaluateQuiet = s.setTable { s.table with quiet := s.quietNow } := by
  have hcontacts : s.contactsInFlight = [] := Part.contactsInFlight_eq_nil fun e => by
    rw [ElemRecord.contactInFlight, h.idle e]
  have hlost : (s.setTable { s.table with quiet := s.quietNow }).quietLost =
      s.setTable { s.table with quiet := s.quietNow } := by
    have hcontacts' : (s.setTable { s.table with quiet := s.quietNow }).contactsInFlight = [] := hcontacts
    have hphase : (s.setTable { s.table with quiet := s.quietNow }).phase? ≠ some .switching := by
      unfold Part.phase? Part.change?
      rw [Part.setTable_seq]
      split
      next c hmode => exact fun hc => (h.phase c hmode).2 (Option.some.inj hc)
      next => nofun
    rw [Part.quietLost, hcontacts', if_neg hphase]
    rfl
  have hgained : (s.setTable { s.table with quiet := s.quietNow }).quietGained =
      s.setTable { s.table with quiet := s.quietNow } := by
    unfold Part.quietGained Part.change?
    rw [Part.setTable_seq]
    cases hmode : s.seq.mode with
    | changing c =>
      obtain ⟨hmuting, hswitching⟩ := h.phase c hmode
      dsimp only
      split
      next hphase => exact absurd hphase hmuting
      next hphase => exact absurd hphase hswitching
      next => rfl
    | stopped => rfl
    | inPattern => rfl
    | halted => rfl
  unfold Part.evaluateQuiet
  dsimp only
  rw [hlost, hgained, ite_self, ite_self]

/-- R35, R36, R25: a block weighed, and its entry tested, in a calm part. -/
theorem Part.weigh_retire_calm {s : Part} (h : s.Calm) (level : Nat) (k : Tower) (x : Block) (b : BitVec 16) :
    ∃ y z, y.readings = s.table.readings ∧ (s.weigh level k x).retire b = (s.setTable y).setStore z := by
  have hquiet : ∀ y : ReadingTable, (s.setTable y).evaluateQuiet = (s.setTable y).setTable _ := fun y =>
    Part.evaluateQuiet_calm (s := s.setTable y) ⟨h.idle, h.phase⟩
  unfold Part.weigh
  dsimp only
  split
  · rw [hquiet]
    refine ⟨_, _, ?_, rfl⟩
    rfl
  · exact ⟨s.table, _, rfl, rfl⟩

/-- The event of a SAMPLE ends in `t` where its arrival has reached `s`: what is weighed and retired changes no more of
the course, the class C reaction is made where it is owed, and the copy follows. -/
def Part.EndsIn (s t : Part) : Prop :=
  ∃ q : Part, s.SameCourse q ∧ q.raised = s.raised ∧ q.reacted.SameCourse t

theorem Part.takeSample_endsIn {s p : Part} {f : Frame} {k : Tower} (hk : s.bank.towerOfNode f.src = some k)
    (hlength : f.payload.length = 131) {level : Nat} {x : Block} {b : BitVec 16}
    (harrive : s.arrival k f.payload = (p.weigh level k x).retire b) (hcalm : p.Calm)
    (hminor : ∀ r ∈ p.raised, r.cls = .c ∨ r.cls = .d) : p.EndsIn (s.takeSample f).settle.drivePins := by
  obtain ⟨y, z, hy, hweigh⟩ := Part.weigh_retire_calm hcalm level k x b
  rw [hweigh] at harrive
  have hsettle : (s.arrival k f.payload).settle = ((p.setTable y).setStore z).reacted.setRaised [] := by
    rw [harrive]
    exact Part.settle_eq_reacted hminor
  refine ⟨(p.setTable y).setStore z, Part.setTable_setStore_course hy z, rfl, ?_⟩
  rw [Part.takeSample_eq hk hlength, hsettle]
  have hcourse := Part.setRaised_course ((p.setTable y).setStore z).reacted []
  split
  · rw [Part.settle_of_none (Part.queueStation_raised ..)]
    exact (hcourse.trans (Part.queueStation_course ..)).trans (Part.drivePins_course _)
  · rw [Part.settle_of_none rfl]
    exact hcourse.trans (Part.drivePins_course _)

end Sys2Proof.Machine
end

section
/-! SUPPORT. What the Change Sequencer and the Trim Engine make of a verdict. -/

namespace Sys2Proof.Machine

/-! ### What every answer to a verdict leaves -/

/-- The part `t` has the readings, the round, the tables and what waits of the MONITOR frames of `s`; it stays calm, and
owes class C and D raises only. -/
structure Part.Answers (s t : Part) : Prop where
  table : t.table = s.table
  round : t.round = s.round
  tables : t.tables = s.tables
  sending : t.station.sending = s.station.sending
  monitor : t.station.monitor = s.station.monitor
  calm : s.Calm → t.Calm
  minor : (∀ r ∈ s.raised, r.cls = .c ∨ r.cls = .d) → ∀ r ∈ t.raised, r.cls = .c ∨ r.cls = .d

theorem Part.Answers.refl (s : Part) : s.Answers s := ⟨rfl, rfl, rfl, rfl, rfl, id, id⟩

theorem Part.Answers.trans {s t u : Part} (h : s.Answers t) (h' : t.Answers u) : s.Answers u where
  table := h'.table.trans h.table
  round := h'.round.trans h.round
  tables := h'.tables.trans h.tables
  sending := h'.sending.trans h.sending
  monitor := h'.monitor.trans h.monitor
  calm := h'.calm ∘ h.calm
  minor := h'.minor ∘ h.minor

theorem Part.setSeq_answers {s : Part} {x : Sequencer}
    (h : ∀ c, x.mode = .changing c → s.seq.mode = .changing c ∨ c.phase ≠ .muting ∧ c.phase ≠ .switching) :
    s.Answers (s.setSeq x) where
  table := rfl
  round := rfl
  tables := rfl
  sending := rfl
  monitor := rfl
  calm hcalm := ⟨hcalm.idle, fun c hc => (h c hc).elim (hcalm.phase c) id⟩
  minor := id

theorem Part.orderRamp_answers (s : Part) (level : Nat) : s.Answers (s.orderRamp level) :=
  ⟨rfl, rfl, rfl, rfl, rfl, fun h => ⟨h.idle, h.phase⟩, id⟩

theorem Part.rampInPattern_answers (s : Part) (level : Nat) : s.Answers (s.rampInPattern level) := by
  unfold Part.rampInPattern Part.testRamp
  split <;> exact ⟨rfl, rfl, rfl, rfl, rfl, fun h => ⟨h.idle, h.phase⟩, id⟩

theorem Part.raise_c_answers (s : Part) (k : FaultKind) (o : FaultObject) : s.Answers (s.raise k o .c) where
  table := rfl
  round := rfl
  tables := rfl
  sending := rfl
  monitor := rfl
  calm h := ⟨h.idle, h.phase⟩
  minor h r hr := by
    obtain hr | hr := List.mem_append.mp hr
    · exact h r hr
    · rw [List.mem_singleton.mp hr]
      exact .inl rfl

theorem Part.setFaults_answers (s : Part) (u : FaultUnit) : s.Answers (s.setFaults u) :=
  ⟨rfl, rfl, rfl, rfl, rfl, fun h => ⟨h.idle, h.phase⟩, id⟩

theorem Part.endCondition_answers (s : Part) (k : FaultKind) (o : FaultObject) : s.Answers (s.endCondition k o) := by
  have hmode : (s.endCondition k o).seq.mode = s.seq.mode := Part.endRecords_mode _ _
  obtain ⟨u, x, heq⟩ : ∃ u x, s.endCondition k o = (s.setFaults u).setSeq x := ⟨_, _, Part.endRecords_eq _ _⟩
  rw [heq] at hmode ⊢
  exact (s.setFaults_answers u).trans (Part.setSeq_answers fun c hc => .inl (hmode.symm.trans hc))

theorem Part.elems_mapAll_getElem (s : Part) (f : ElemRecord → ElemRecord) (e : Elem) :
    (mapAll s.elems fun _ r => f r)[e] = f s.elems[e] := mapAll_getElem ..

/-- R133: the part with every trim count at 0. -/
def Part.budgetsFull (s : Part) : Part := s.setElems (mapAll s.elems fun _ r => { r with trimCount := 0 })

theorem Part.budgetsFull_command (s : Part) (e : Elem) : s.budgetsFull.elems[e].command = s.elems[e].command := by
  rw [Part.budgetsFull, Part.setElems_elems, s.elems_mapAll_getElem fun r => { r with trimCount := 0 }]

theorem Part.budgetsFull_trimCount (s : Part) (e : Elem) : s.budgetsFull.elems[e].trimCount = 0 := by
  rw [Part.budgetsFull, Part.setElems_elems, s.elems_mapAll_getElem fun r => { r with trimCount := 0 }]

theorem Part.setElems_answers {s : Part} {v : Vector ElemRecord 40}
    (h : ∀ e : Elem, v[e].command = s.elems[e].command) : s.Answers (s.setElems v) where
  table := rfl
  round := rfl
  tables := rfl
  sending := rfl
  monitor := rfl
  calm hcalm := ⟨fun e => (h e).trans (hcalm.idle e), hcalm.phase⟩
  minor := id

theorem Part.budgetsFull_answers (s : Part) : s.Answers s.budgetsFull := Part.setElems_answers s.budgetsFull_command

/-! ### IN_PATTERN (R69, R70, R96) -/

theorem Part.ootRises_answers (p : Pat) (s : Part) : s.Answers (s.ootRises p) := by
  have hrun : ∀ n b, s.Answers (s.setSeq { s.seq with ootRun := n, ootRaised := b }) := fun n b =>
    Part.setSeq_answers fun c hc => .inl hc
  unfold Part.ootRises
  dsimp only
  split
  · exact (hrun _ _).trans (Part.raise_c_answers _ _ _)
  · exact hrun _ _

theorem Part.ootClears_answers (s : Part) : s.Answers s.ootClears :=
  (s.endCondition_answers _ _).trans (Part.setSeq_answers fun _ hc => .inl hc)

theorem Part.restoreCounts_answers (p : Pat) (s : Part) : s.Answers (s.restoreCounts p) := by
  have hcount : ∀ n, s.Answers (s.setSeq { s.seq with restore := n }) := fun n => Part.setSeq_answers fun _ hc => .inl hc
  unfold Part.restoreCounts
  dsimp only
  split
  · exact .refl s
  · split
    · refine Part.Answers.trans ?_ (Part.rampInPattern_answers _ _)
      exact (hcount _).trans (Part.setSeq_answers fun _ hc => .inl hc)
    · exact hcount _

theorem Part.patternVerdict_answers (v : Verdict) (p : Pat) (s : Part) : s.Answers (s.patternVerdict v p) := by
  cases v with
  | noVerdict => exact .refl s
  | outTol =>
    have hrestore : s.Answers (s.setSeq { s.seq with restore := 0 }) := Part.setSeq_answers fun _ hc => .inl hc
    unfold Part.patternVerdict
    dsimp only
    split
    · exact hrestore
    · exact hrestore.trans (Part.ootRises_answers p _)
  | inTol =>
    have hclear : s.Answers (if s.lines.txTrip then s else s.ootClears) := by
      split
      · exact .refl s
      · exact s.ootClears_answers
    unfold Part.patternVerdict
    dsimp only
    split
    · exact hclear.trans (Part.restoreCounts_answers p _)
    · exact hclear

theorem Part.sequencerVerdict_inPattern {s : Part} {p : Pat} (hmode : s.seq.mode = .inPattern)
    (hactive : s.seq.active = some p) (v : Verdict) : s.sequencerVerdict v = s.patternVerdict v p := by
  unfold Part.sequencerVerdict
  rw [hmode, hactive]

/-- R70, R154: the OUT_TOL verdict at hand brings the run to the grace of pattern p, in a run that has not raised. -/
def Part.MeetsGrace (s : Part) (p : Pat) : Prop :=
  s.seq.ootRaised = false ∧ s.seq.ootRun < 255 ∧ s.seq.ootRun + 1 = s.bank.ootGrace p

theorem Part.ootReaches_iff (s : Part) (p : Pat) : s.ootReaches p (bump 255 s.seq.ootRun) = true ↔ s.MeetsGrace p := by
  rw [Part.ootReaches, Part.MeetsGrace, Bool.and_eq_true, Bool.not_eq_true', decide_eq_true_iff]
  refine and_congr_right fun _ => ?_
  unfold bump
  split <;> omega

theorem Part.patternVerdict_outTol_released {s : Part} (htrip : s.lines.txTrip = false) (p : Pat) :
    s.patternVerdict .outTol p = (s.setSeq { s.seq with restore := 0 }).ootRises p :=
  if_neg (by rw [Part.setSeq_lines, htrip]; nofun)

/-- R69: OUT_TOL before the grace, or after it. -/
theorem Part.patternVerdict_outTol {s : Part} {p : Pat} (htrip : s.lines.txTrip = false) (h : ¬s.MeetsGrace p) :
    s.patternVerdict .outTol p = s.setSeq { s.seq with restore := 0, ootRun := upTo 255 s.seq.ootRun } := by
  have hreaches : (s.setSeq { s.seq with restore := 0 }).ootReaches p (bump 255 s.seq.ootRun) = false :=
    Bool.not_eq_true _ ▸ mt (s.ootReaches_iff p).mp h
  rw [Part.patternVerdict_outTol_released htrip]
  simp only [Part.ootRises, Part.setSeq_seq, hreaches, Bool.or_false, Bool.false_eq_true, if_false]
  rfl

/-- R70: OUT_TOL at the grace. -/
theorem Part.patternVerdict_outTol_grace {s : Part} {p : Pat} (htrip : s.lines.txTrip = false) (h : s.MeetsGrace p) :
    s.patternVerdict .outTol p =
      (s.setSeq { s.seq with restore := 0, ootRun := upTo 255 s.seq.ootRun, ootRaised := true }).raise
        .outOfTolerance .nothing .c := by
  have hreaches : (s.setSeq { s.seq with restore := 0 }).ootReaches p (bump 255 s.seq.ootRun) = true :=
    (s.ootReaches_iff p).mpr h
  rw [Part.patternVerdict_outTol_released htrip]
  simp only [Part.ootRises, Part.setSeq_seq, hreaches, Bool.or_true, if_true]
  rfl

/-- R96: a class C record is ACTIVE. -/
def FaultUnit.HasC (u : FaultUnit) : Prop := ∃ x ∈ u.records, x.active = true ∧ x.cls = .c

theorem Part.classCActive_iff (s : Part) : s.classCActive = true ↔ s.faults.HasC := by
  simp only [Part.classCActive, List.any_eq_true, Bool.and_eq_true, beq_iff_eq]
  rfl

theorem FaultUnit.ActiveFrom.hasC {u w : FaultUnit} (h : u.ActiveFrom w) (hw : w.HasC) : u.HasC := by
  obtain ⟨x, hx, hactive, hcls⟩ := hw
  obtain ⟨y, hy, hyactive, _, _, hycls⟩ := h x hx hactive
  exact ⟨y, hy, hyactive, hycls.trans hcls⟩

/-- R96: an end of records moves the restore count in IN_PATTERN where a class C record was ACTIVE, and else nothing of the
sequencer. -/
theorem Part.endRecords_seq_of (s : Part) (p : FaultRecord → Bool) :
    (s.endRecords p).seq = s.seq ∨
      s.seq.mode = .inPattern ∧ s.faults.HasC ∧ (s.endRecords p).seq = { s.seq with restore := 0 } := by
  unfold Part.endRecords
  dsimp only
  split
  next h =>
    obtain ⟨hpattern, hany⟩ := Bool.and_eq_true_iff.mp h
    obtain ⟨x, hx, hends⟩ := List.any_eq_true.mp hany
    simp only [Bool.and_eq_true, beq_iff_eq] at hends
    obtain ⟨⟨hactive, _⟩, hcls⟩ := hends
    refine .inr ⟨?_, ⟨x, hx, hactive, hcls⟩, rfl⟩
    unfold Part.isInPattern at hpattern
    split at hpattern
    next hmode => exact hmode
    next => nomatch hpattern
  next => exact .inl rfl

/-- R155: no record of the kind and object is ACTIVE after its end. -/
theorem Part.endCondition_ended (s : Part) (k : FaultKind) (o : FaultObject) :
    ∀ x ∈ (s.endCondition k o).faults.records, ¬(x.active = true ∧ x.kind = k ∧ x.object = o) := by
  have hrecords : (s.endCondition k o).faults.records = s.faults.records.map fun r =>
      if (r.active && (r.kind == k && r.object == o)) = true then { r with active := false } else r := by
    unfold Part.endCondition Part.endRecords
    dsimp only
    split <;> rfl
  rw [hrecords]
  intro x hx ⟨hactive, hkind, hobject⟩
  obtain ⟨y, -, rfl⟩ := List.mem_map.mp hx
  split at hactive
  · nomatch hactive
  next hends =>
    rw [if_neg hends] at hkind hobject
    exact hends (by simp [hactive, hkind, hobject])

/-- R69, R70, R96: what an IN_TOL verdict leaves in IN_PATTERN with TX_TRIP released. -/
structure Part.Restores (s t : Part) (p : Pat) : Prop where
  mode : t.seq.mode = s.seq.mode
  active : t.seq.active = s.seq.active
  slot : t.seq.slot = s.seq.slot
  ootRun : t.seq.ootRun = 0
  ootRaised : t.seq.ootRaised = false
  ended : ∀ x ∈ t.faults.records, ¬(x.active = true ∧ x.kind = .outOfTolerance ∧ x.object = .nothing)
  normal : s.seq.sub = .normal → t.seq.sub = .normal ∧ t.ramp = s.ramp
  held : s.seq.sub = .degraded → t.faults.HasC → t.seq.sub = .degraded ∧ t.ramp = s.ramp
  counts : s.seq.sub = .degraded → ¬s.faults.HasC → t.seq.restore = upTo 15 s.seq.restore ∧
    (t.seq.restore < s.bank.verifyRounds p → t.seq.sub = .degraded ∧ t.ramp = s.ramp) ∧
    (s.bank.verifyRounds p ≤ t.seq.restore → t.seq.sub = .normal ∧
      t.ramp.target = min (s.bank.operatingLevel p) (s.tables.mem.licensedLevel p))

theorem Part.rampInPattern_elems (s : Part) (level : Nat) : (s.rampInPattern level).elems = s.elems := by
  unfold Part.rampInPattern Part.testRamp
  split <;> rfl

theorem Part.rampInPattern_faults (s : Part) (level : Nat) : (s.rampInPattern level).faults = s.faults := by
  unfold Part.rampInPattern Part.testRamp
  split <;> rfl

theorem Part.rampInPattern_raised (s : Part) (level : Nat) : (s.rampInPattern level).raised = s.raised := by
  unfold Part.rampInPattern Part.testRamp
  split <;> rfl

/-- R139: the target of a ramp ordered in IN_PATTERN. -/
theorem Part.rampInPattern_target (s : Part) (level : Nat) :
    (s.rampInPattern level).ramp.target = min level s.licensedNow := by
  unfold Part.rampInPattern Part.testRamp
  split <;> rfl

/-- R69, R70: what IN_TOL makes of the run and of the record of OUT_OF_TOLERANCE. -/
theorem Part.ootClears_eq (s : Part) : ∃ u n, s.ootClears =
    (s.setFaults u).setSeq { s.seq with restore := n, ootRun := 0, ootRaised := false } ∧
      (∀ x ∈ u.records, ¬(x.active = true ∧ x.kind = .outOfTolerance ∧ x.object = .nothing)) ∧
      s.faults.ActiveFrom u ∧ (¬s.faults.HasC → n = s.seq.restore) := by
  have hended := s.endCondition_ended .outOfTolerance .nothing
  have hfrom : s.faults.ActiveFrom (s.endCondition .outOfTolerance .nothing).faults := s.endRecords_activeFrom _
  have heq : s.endCondition .outOfTolerance .nothing =
      (s.setFaults (s.endCondition .outOfTolerance .nothing).faults).setSeq
        (s.endCondition .outOfTolerance .nothing).seq := Part.endRecords_eq _ _
  have hclears : s.ootClears = (s.setFaults (s.endCondition .outOfTolerance .nothing).faults).setSeq
      { (s.endCondition .outOfTolerance .nothing).seq with ootRun := 0, ootRaised := false } :=
    congrArg (fun t : Part => t.setSeq { t.seq with ootRun := 0, ootRaised := false }) heq
  obtain hseq | ⟨_, hc, hseq⟩ :=
    s.endRecords_seq_of (fun r => r.kind == .outOfTolerance && r.object == .nothing)
  · exact ⟨_, s.seq.restore, hclears.trans (by rw [Part.endCondition, hseq]), hended, hfrom, fun _ => rfl⟩
  · exact ⟨_, 0, hclears.trans (by rw [Part.endCondition, hseq]), hended, hfrom, fun h => absurd hc h⟩

/-- R96: an IN_TOL verdict while a class C record is ACTIVE. -/
theorem Part.restoreCounts_blocked {s : Part} (h : s.faults.HasC) (p : Pat) : s.restoreCounts p = s :=
  if_pos (s.classCActive_iff.mpr h)

/-- R96: an IN_TOL verdict that counts. -/
theorem Part.restoreCounts_counts {s : Part} (h : ¬s.faults.HasC) (p : Pat) :
    s.restoreCounts p =
      if s.bank.verifyRounds p ≤ upTo 15 s.seq.restore then
        (s.setSeq { s.seq with restore := upTo 15 s.seq.restore, sub := .normal }).rampInPattern (s.bank.operatingLevel p)
      else s.setSeq { s.seq with restore := upTo 15 s.seq.restore } :=
  if_neg (mt s.classCActive_iff.mp h)

/-- R139: the licensed level that holds a ramp in IN_PATTERN. -/
theorem Part.licensedNow_inPattern {s : Part} {p : Pat} (hmode : s.seq.mode = .inPattern)
    (hactive : s.seq.active = some p) : s.licensedNow = s.tables.mem.licensedLevel p := by
  have hgoverning : s.governing = some p := by
    rw [Part.governing, hmode]
    exact hactive
  rw [Part.licensedNow, hgoverning]

/-- R96: what IN_TOL counts in DEGRADED, from a run that has ended. -/
theorem Part.restoreCounts_restores {s : Part} {p : Pat} (hmode : s.seq.mode = .inPattern)
    (hactive : s.seq.active = some p) (hrun : s.seq.ootRun = 0) (hraised : s.seq.ootRaised = false)
    (hended : ∀ x ∈ s.faults.records, ¬(x.active = true ∧ x.kind = .outOfTolerance ∧ x.object = .nothing))
    (hsub : s.seq.sub = .degraded) : s.Restores (s.restoreCounts p) p := by
  have hnormal : s.seq.sub ≠ .normal := by rw [hsub]; nofun
  by_cases hc : s.faults.HasC
  · rw [Part.restoreCounts_blocked hc]
    exact ⟨rfl, rfl, rfl, hrun, hraised, hended, fun h => absurd h hnormal, fun _ _ => ⟨hsub, rfl⟩,
      fun _ h => absurd hc h⟩
  · rw [Part.restoreCounts_counts hc]
    split
    next hrounds =>
      refine ⟨?_, ?_, ?_, ?_, ?_, ?_, fun h => absurd h hnormal, fun _ h => ?_,
        fun _ _ => ⟨?_, fun h => ?_, fun _ => ⟨?_, ?_⟩⟩⟩
      case refine_6 => rw [Part.rampInPattern_faults]; exact hended
      case refine_7 => rw [Part.rampInPattern_faults] at h; exact absurd h hc
      case refine_9 => rw [Part.rampInPattern_seq] at h; exact absurd h (not_lt.mpr hrounds)
      case refine_11 =>
        rw [Part.rampInPattern_target, ← Part.licensedNow_inPattern hmode hactive]
        rfl
      all_goals rw [Part.rampInPattern_seq]
      exacts [rfl, rfl, rfl, hrun, hraised, rfl, rfl]
    next hrounds =>
      exact ⟨rfl, rfl, rfl, hrun, hraised, hended, fun h => absurd h hnormal, fun _ h => absurd h hc,
        fun _ _ => ⟨rfl, fun _ => ⟨hsub, rfl⟩, fun h => absurd h hrounds⟩⟩

theorem Part.restoreCounts_keeps (s : Part) (p : Pat) :
    (s.restoreCounts p).elems = s.elems ∧ (s.restoreCounts p).raised = s.raised := by
  unfold Part.restoreCounts
  dsimp only
  split
  · exact ⟨rfl, rfl⟩
  · split
    · exact ⟨Part.rampInPattern_elems _ _, Part.rampInPattern_raised _ _⟩
    · exact ⟨rfl, rfl⟩

theorem Part.patternVerdict_inTol_released {s : Part} (htrip : s.lines.txTrip = false) (p : Pat) :
    s.patternVerdict .inTol p =
      match s.seq.sub with
      | .degraded => s.ootClears.restoreCounts p
      | .normal => s.ootClears := by
  obtain ⟨u, n, hclears, -⟩ := s.ootClears_eq
  unfold Part.patternVerdict
  dsimp only
  rw [if_neg (by rw [htrip]; nofun), hclears]
  rfl

/-- R69, R70, R96: IN_TOL in IN_PATTERN. -/
theorem Part.patternVerdict_inTol {s : Part} {p : Pat} (htrip : s.lines.txTrip = false)
    (hmode : s.seq.mode = .inPattern) (hactive : s.seq.active = some p) :
    s.Restores (s.patternVerdict .inTol p) p ∧ (s.patternVerdict .inTol p).elems = s.elems ∧
      (s.patternVerdict .inTol p).raised = s.raised := by
  obtain ⟨u, n, hclears, hended, hfrom, hn⟩ := s.ootClears_eq
  rw [Part.patternVerdict_inTol_released htrip, hclears]
  cases hsub : s.seq.sub with
  | normal =>
    have hnot : s.seq.sub ≠ .degraded := by rw [hsub]; nofun
    exact ⟨⟨rfl, rfl, rfl, rfl, rfl, hended, fun _ => ⟨hsub, rfl⟩, fun h => absurd h hnot, fun h => absurd h hnot⟩, rfl,
      rfl⟩
  | degraded =>
    have hnot : s.seq.sub ≠ .normal := by rw [hsub]; nofun
    have hrestores := Part.restoreCounts_restores (p := p)
      (s := (s.setFaults u).setSeq { s.seq with restore := n, ootRun := 0, ootRaised := false }) hmode hactive rfl rfl
      hended hsub
    refine ⟨⟨hrestores.mode, hrestores.active, hrestores.slot, hrestores.ootRun, hrestores.ootRaised, hrestores.ended,
      fun h => absurd h hnot, hrestores.held, fun hdegraded hc => ?_⟩, Part.restoreCounts_keeps _ p⟩
    obtain ⟨hcount, hrounds⟩ := hrestores.counts hdegraded (mt hfrom.hasC hc)
    exact ⟨hcount.trans (congrArg (upTo 15) (hn hc)), hrounds⟩

end Sys2Proof.Machine
end

section
/-! SUPPORT. What a verdict makes of a change in TRIMMING or VERIFYING, the trim budgets, and the completion of a round. -/

namespace Sys2Proof.Machine

/-! ### TRIMMING and VERIFYING (R84, R85) -/

theorem Part.modifyChange_eq {s : Part} {c : Change} (h : s.seq.mode = .changing c) (f : Change → Change) :
    s.modifyChange f = s.setSeq { s.seq with mode := .changing (f c) } := by
  unfold Part.modifyChange
  rw [h]

/-- R84, R85: the change awaits the verdicts of its trim, and the ramp that follows is not over at its order. -/
structure Part.Trims (s : Part) (c : Change) (p : Pat) : Prop where
  mode : s.seq.mode = .changing c
  phase : c.phase = .trimming ∨ c.phase = .verifying
  toPat : c.toPat = some p
  level : s.ramp.level ≠ min (s.bank.operatingLevel p) (s.tables.mem.licensedLevel p)

/-- R84, R85: the verify count once an IN_TOL verdict has been handed over. -/
def Change.verified (c : Change) : Nat := if c.phase = .trimming then 1 else c.verify + 1

/-- R85: the change after an OUT_TOL verdict. -/
def Change.untrimmed (c : Change) : Change :=
  { c with phase := .trimming, verify := if c.phase = .trimming then c.verify else 0 }

theorem Change.untrimmed_of_trimming (c : Change) (h : c.phase = .trimming) : c.untrimmed = c := by
  rw [Change.untrimmed, if_pos h, ← h]

theorem Change.untrimmed_of_verifying (c : Change) (h : c.phase = .verifying) :
    c.untrimmed = { c with phase := .trimming, verify := 0 } := by
  rw [Change.untrimmed, if_neg (by rw [h]; nofun)]

/-- R84, R85: the change that an IN_TOL verdict leaves in VERIFYING. -/
def Change.verifies (c : Change) : Change := { c with phase := .verifying, verify := c.verified }

/-- R85, R87: the change that an IN_TOL verdict takes to RAMP_FINAL. -/
def Change.finishes (c : Change) : Change := { c with phase := .rampFinal, verify := c.verified, settleDeadline := none }

/-- The part with the change in flight replaced. -/
def Part.withChange (s : Part) (c : Change) : Part := s.setSeq { s.seq with mode := .changing c }

theorem Part.withChange_answers (s : Part) {c : Change} (h : c.phase ≠ .muting ∧ c.phase ≠ .switching) :
    s.Answers (s.withChange c) :=
  Part.setSeq_answers fun _ hc => .inr (Mode.changing.inj hc ▸ h)

section
variable {s : Part} {c : Change} {p : Pat} (h : s.Trims c p)
include h

theorem Part.Trims.sequencerVerdict (v : Verdict) : s.sequencerVerdict v = s.changeVerdict v c := by
  unfold Part.sequencerVerdict
  rw [h.mode]

theorem Part.Trims.changeVerdict_outTol : s.changeVerdict .outTol c = s.withChange c.untrimmed := by
  unfold Part.changeVerdict
  rw [h.toPat]
  obtain hphase | hphase := h.phase
  · rw [c.untrimmed_of_trimming hphase, Part.withChange, ← h.mode, hphase]
    rfl
  · rw [c.untrimmed_of_verifying hphase, hphase, Part.withChange]
    exact Part.modifyChange_eq h.mode _

theorem Part.Trims.changeVerdict_inTol : s.changeVerdict .inTol c = s.verifying p c.verified := by
  unfold Part.changeVerdict Change.verified
  rw [h.toPat]
  obtain hphase | hphase := h.phase <;> rw [hphase] <;> rfl

/-- R84, R85: IN_TOL below verify rounds. -/
theorem Part.Trims.verifying_below (hrounds : c.verified < s.bank.verifyRounds p) :
    s.verifying p c.verified = s.withChange c.verifies := by
  have hbelow : ¬(s.withChange c.verifies).bank.verifyRounds p ≤ c.verified := not_le.mpr hrounds
  unfold Part.verifying
  rw [Part.modifyChange_eq h.mode]
  exact if_neg hbelow

/-- R139: the target of the ramp to the operating level of the to-pattern. -/
theorem Part.Trims.licensedNow : (s.withChange c.finishes).licensedNow = s.tables.mem.licensedLevel p := by
  have hgoverning : (s.withChange c.finishes).governing = some p := h.toPat
  rw [Part.licensedNow, hgoverning]
  rfl

/-- R85, R87: IN_TOL at verify rounds. -/
theorem Part.Trims.verifying_reaches (hrounds : s.bank.verifyRounds p ≤ c.verified) :
    s.verifying p c.verified = (s.withChange c.finishes).orderRamp (s.bank.operatingLevel p) := by
  have hreached : (s.withChange c.verifies).bank.verifyRounds p ≤ c.verified := hrounds
  have hunreached : ¬((s.withChange c.finishes).orderRamp (s.bank.operatingLevel p)).ramp.Complete := by
    rintro ⟨-, hlevel, -⟩
    refine h.level (hlevel.trans ?_)
    rw [← h.licensedNow]
    rfl
  unfold Part.verifying
  rw [Part.modifyChange_eq h.mode]
  refine (if_pos hreached).trans ?_
  unfold Part.enterRampFinal
  rw [Part.modifyChange_eq (c := c.verifies) rfl]
  exact Part.settleRamp_of_unreached hunreached

theorem Part.Trims.answers {v : Verdict} (hv : v ≠ .noVerdict) : s.Answers (s.changeVerdict v c) := by
  cases v with
  | noVerdict => exact absurd rfl hv
  | outTol =>
    rw [h.changeVerdict_outTol]
    exact s.withChange_answers ⟨Phase.noConfusion, Phase.noConfusion⟩
  | inTol =>
    rw [h.changeVerdict_inTol]
    by_cases hrounds : s.bank.verifyRounds p ≤ c.verified
    · rw [h.verifying_reaches hrounds]
      exact (s.withChange_answers ⟨Phase.noConfusion, Phase.noConfusion⟩).trans (Part.orderRamp_answers _ _)
    · rw [h.verifying_below (not_le.mp hrounds)]
      exact s.withChange_answers ⟨Phase.noConfusion, Phase.noConfusion⟩

end

/-! ### The trim budgets (R133) -/

theorem Part.trimVerdict_inPattern {s : Part} {p : Pat} (hmode : s.seq.mode = .inPattern)
    (hactive : s.seq.active = some p) :
    s.trimVerdict .inTol = if s.bank.continuous p = true then s.budgetsFull else s := by
  unfold Part.trimVerdict
  rw [hmode, hactive]
  dsimp only
  rw [Part.budgetsFull]
  simp only [true_and]

theorem Part.trimVerdict_changing {s : Part} {c : Change} (h : s.seq.mode = .changing c) (v : Verdict) :
    s.trimVerdict v = s := by
  unfold Part.trimVerdict
  rw [h]

theorem Part.trimVerdict_eq (s : Part) (v : Verdict) : s.trimVerdict v = s ∨ s.trimVerdict v = s.budgetsFull := by
  unfold Part.trimVerdict
  split
  · split
    · exact .inr rfl
    · exact .inl rfl
  · exact .inl rfl

theorem Part.trimVerdict_answers (v : Verdict) (s : Part) : s.Answers (s.trimVerdict v) := by
  obtain h | h := s.trimVerdict_eq v <;> rw [h]
  · exact .refl s
  · exact s.budgetsFull_answers

end Sys2Proof.Machine
end

section
/-! SUPPORT. The MONITOR frame of a round, byte by byte (R67, R188). -/

namespace Sys2Proof.Machine

/-! ### Towers as bits (R185) -/

theorem testBit_foldl_towers (l : List Tower) (n : Nat) (j : Tower) :
    ((l.map fun t => 2 ^ t.val).foldl (· ||| ·) n).testBit j.val = (n.testBit j.val || decide (j ∈ l)) := by
  induction l generalizing n with
  | nil => simp
  | cons t l ih =>
    rw [List.map_cons, List.foldl_cons, ih, Nat.testBit_or, Nat.testBit_two_pow]
    simp only [Fin.val_inj, List.mem_cons, Bool.decide_or, Bool.or_assoc, eq_comm]

/-- R185: a set of towers as bits. -/
def towerBits (l : List Tower) : Nat := (l.map fun t => 2 ^ t.val).foldl (· ||| ·) 0

/-- R188: the bits of a set of towers, as two bytes carry them. -/
theorem towerBits_testBit (l : List Tower) (j : Tower) :
    (towerBits l % 65536).testBit j.val = decide (j ∈ l) := by
  have hj : j.val < 16 := by omega
  rw [show 65536 = 2 ^ 16 from rfl, Nat.testBit_mod_two_pow, towerBits, testBit_foldl_towers, Nat.zero_testBit,
    Bool.false_or]
  simp [hj]

/-! ### The frame -/

/-- R188: the pattern byte of a MONITOR frame. -/
def Part.monitorPat (s : Part) : Byte :=
  match if s.round.last = .noVerdict then none else s.corr.config.source with
  | some p => BitVec.ofNat 8 p.val
  | none => 255

theorem Part.monitorPat_toNat {s : Part} (h : s.round.last ≠ .noVerdict) :
    s.monitorPat.toNat = (match s.corr.config.source with | some p => p.val | none => 255) := by
  rw [Part.monitorPat, if_neg h]
  cases s.corr.config.source with
  | none => rfl
  | some p =>
    dsimp only
    rw [BitVec.toNat_ofNat]
    omega

/-- R67, R188: the eleven fixed bytes of a MONITOR frame and its report values. -/
theorem Part.monitorFrame_payload (s : Part) : s.monitorFrame.payload =
    BitVec.ofNat 8 (s.round.counter.toNat / 256) :: BitVec.ofNat 8 s.round.counter.toNat ::
    BitVec.ofNat 8 s.situation.stateCode :: BitVec.ofNat 8 s.situation.phaseCode :: s.monitorPat ::
    BitVec.ofNat 8 s.round.last.code ::
    BitVec.ofNat 8 (towerBits s.round.failing / 256) :: BitVec.ofNat 8 (towerBits s.round.failing) ::
    BitVec.ofNat 8 (s.ramp.level / 256) :: BitVec.ofNat 8 s.ramp.level :: BitVec.ofNat 8 s.reports.length ::
    s.reports.flatten := by
  have hpat : bytePat (if s.round.last = .noVerdict then none else s.corr.config.source) = [s.monitorPat] := by
    unfold Part.monitorPat
    generalize (if s.round.last = .noVerdict then none else s.corr.config.source) = source
    cases source <;> rfl
  unfold Part.monitorFrame
  rw [hpat]
  rfl

theorem Part.reports_length_le (s : Part) : s.reports.length ≤ 16 :=
  (List.length_filterMap_le ..).trans_eq List.length_range

end Sys2Proof.Machine
end

section
/-! SUPPORT. The completion of a round and the end of its event, in each state. -/

namespace Sys2Proof.Machine

/-! ### The completion of a round (R66) -/

/-- The part with the Reading Table, the round and the Station Port of a completion. -/
def Part.judgedAs (s : Part) (x : ReadingTable) (y : VerdictUnit) (z : StationPort) : Part :=
  ((s.setTable x).setRound y).setStation z

theorem Part.judge_setStation (s : Part) (z : StationPort) :
    s.judge.setStation z = s.judgedAs s.judge.table s.judge.round z := rfl

/-- R67: the MONITOR frame of a completion is handed over: where the Station Port transmits, it waits. -/
theorem Part.handMonitor_judged (s : Part) : ∃ z, s.judge.handMonitor s.judge.monitorFrame = s.judge.setStation z ∧
    (s.stationBusy → z.sending ≠ none) ∧
    (s.station.link.up = true → s.stationBusy → z.monitor = some s.judge.monitorFrame) := by
  by_cases hbusy : s.stationBusy
  · have hkick := Part.stationKick_of_busy
      (s := s.judge.setStation { s.judge.station with monitor := some s.judge.monitorFrame }) hbusy
    unfold Part.handMonitor
    by_cases hup : s.station.link.up = true
    · have hup' : s.judge.station.link.up = true := hup
      rw [if_pos hup', hkick]
      exact ⟨_, rfl, fun _ => hbusy, fun _ _ => rfl⟩
    · have hup' : ¬s.judge.station.link.up = true := hup
      rw [if_neg hup']
      exact ⟨s.judge.station, rfl, fun _ => hbusy, fun h => absurd h hup⟩
  · obtain ⟨z, hz⟩ := s.judge.handMonitor_eq s.judge.monitorFrame
    exact ⟨z, hz, fun h => absurd h hbusy, fun _ h => absurd h hbusy⟩

/-- R66: a completion, from the part that has been judged and whose MONITOR frame has been handed over. -/
theorem Part.completeRound_eq (s : Part) : ∃ x y z, x = s.judge.table ∧ y = s.judge.round ∧
    s.completeRound = (((s.judgedAs x y z).sequencerVerdict y.last).trimVerdict y.last).abandonRound ∧
      (s.stationBusy → z.sending ≠ none) ∧
      (s.station.link.up = true → s.stationBusy → z.monitor = some s.judge.monitorFrame) := by
  obtain ⟨z, hz, hsending⟩ := s.handMonitor_judged
  refine ⟨_, _, z, rfl, rfl, ?_, hsending⟩
  unfold Part.completeRound
  dsimp only
  rw [hz, Part.judge_setStation]

/-- The states in which a verdict is taken up here. -/
def Part.Awaits (s : Part) : Prop := s.seq.mode = .stopped ∨ s.seq.mode = .inPattern ∨ ∃ c p, s.Trims c p

theorem Part.Awaits.sequencerVerdict_answers {s : Part} (h : s.Awaits) {v : Verdict} (hv : v ≠ .noVerdict) :
    s.Answers (s.sequencerVerdict v) := by
  obtain h | h | ⟨c, p, h⟩ := h
  · rw [Part.sequencerVerdict_rest (.inl h)]
    exact .refl s
  · cases hactive : s.seq.active with
    | none =>
      have hnone : s.sequencerVerdict v = s := by
        unfold Part.sequencerVerdict
        rw [h, hactive]
      rw [hnone]
      exact .refl s
    | some p =>
      rw [Part.sequencerVerdict_inPattern h hactive]
      exact Part.patternVerdict_answers v p s
  · rw [h.sequencerVerdict]
    exact h.answers hv

/-! ### The end of the event -/

theorem Part.degrade_answers (s : Part) : s.Answers s.degrade := by
  have hsub : ∀ x : Substatus, s.Answers (s.setSeq { s.seq with sub := x, restore := 0 }) := fun x =>
    Part.setSeq_answers fun _ hc => .inl hc
  unfold Part.degrade
  split
  · split
    · exact (hsub .degraded).trans (Part.rampInPattern_answers _ _)
    · exact hsub .degraded
  · exact hsub s.seq.sub
  · exact .refl s
  · exact .refl s
  · exact .refl s

theorem Part.reacted_answers (s : Part) : s.Answers s.reacted := by
  unfold Part.reacted
  split
  · exact s.degrade_answers
  · exact .refl s

/-- R44, R66: the readings, the round and a MONITOR frame that waits stand at the end of the event. -/
theorem Part.EndsIn.shown {s t : Part} (h : s.EndsIn t) : t.table.readings = s.table.readings ∧ t.round = s.round ∧
    (s.stationBusy → t.station.monitor = s.station.monitor) := by
  obtain ⟨q, hq, -, ht⟩ := h
  have hreacted := q.reacted_answers
  refine ⟨?_, (ht.round.trans hreacted.round).trans hq.round, fun hbusy => ?_⟩
  · rw [ht.readings, hreacted.table, hq.readings]
  · obtain ⟨hbusy', hmonitor⟩ := hq.port hbusy
    have hbusy'' : q.reacted.stationBusy := by
      rw [Part.stationBusy, hreacted.sending]
      exact hbusy'
    exact ((ht.port hbusy'').2.trans hreacted.monitor).trans hmonitor

/-- R150: an event that owes class D raises only makes no reaction. -/
theorem Part.EndsIn.course {s t : Part} (h : s.EndsIn t) (hd : ∀ r ∈ s.raised, r.cls = .d) : s.SameCourse t := by
  obtain ⟨q, hq, hraised, ht⟩ := h
  rw [Part.reacted_of_d (hraised ▸ hd)] at ht
  exact hq.trans ht

/-- R95: what the class C reaction leaves in IN_PATTERN. -/
structure Part.Degrades (s t : Part) : Prop where
  seq : t.seq = { s.seq with sub := .degraded, restore := 0 }
  elems : t.elems = s.elems
  faults : t.faults = s.faults
  target : ∀ p, s.seq.active = some p → s.seq.sub = .normal →
    t.ramp.target = min (s.bank.degradedLevel p) (s.tables.mem.licensedLevel p)

theorem Part.degrade_degrades {s : Part} (h : s.seq.mode = .inPattern) : s.Degrades s.degrade := by
  obtain ⟨r, z, heq⟩ := Part.degrade_eq h
  refine ⟨by rw [heq]; rfl, by rw [heq]; rfl, by rw [heq]; rfl, fun p hactive hsub => ?_⟩
  have hramp : s.degrade =
      (s.setSeq { s.seq with sub := .degraded, restore := 0 }).rampInPattern (s.bank.degradedLevel p) := by
    unfold Part.degrade
    rw [h, hsub]
    dsimp only [Part.setSeq_seq]
    rw [hactive]
    rfl
  rw [hramp, Part.rampInPattern_target, ← Part.licensedNow_inPattern h hactive]
  rfl

/-- R95: an event in IN_PATTERN that owes a class C raise. -/
theorem Part.EndsIn.degrades {s t : Part} (h : s.EndsIn t) (hmode : s.seq.mode = .inPattern)
    (hc : ∃ r ∈ s.raised, r.cls = .c) : s.Degrades t := by
  obtain ⟨q, hq, hraised, ht⟩ := h
  obtain ⟨r, hr, hcls⟩ := hc
  rw [Part.reacted_of_c (hraised ▸ hr) hcls] at ht
  have hdegrades := Part.degrade_degrades (s := q) (by rw [hq.seq]; exact hmode)
  have hbank : q.bank = s.bank := congrArg (fun x : Tables => activeBank x.mem) hq.tables
  refine ⟨?_, ?_, ?_, fun p hactive hsub => ?_⟩
  · rw [ht.seq, hdegrades.seq, hq.seq]
  · rw [ht.elems, hdegrades.elems, hq.elems]
  · rw [ht.faults, hdegrades.faults, hq.faults]
  · rw [ht.ramp, hdegrades.target p (by rw [hq.seq]; exact hactive) (by rw [hq.seq]; exact hsub), hbank, hq.tables]

/-! ### A round that is due -/

/-- The event that began in `s` has come to `b`, at which its round completes: the frame's receipt and the close of a
window have moved no more than the Fault Unit and the restore count, and owe class D raises only. -/
structure Part.RoundDue (s b : Part) : Prop where
  tables : b.tables = s.tables
  config : b.corr.config = s.corr.config
  lines : b.lines = s.lines
  elems : b.elems = s.elems
  ramp : b.ramp = s.ramp
  station : b.station = s.station
  counter : b.round.counter = s.round.counter
  seq : ∃ n, b.seq = { s.seq with restore := n } ∧
    (n = s.seq.restore ∨ s.seq.mode = .inPattern ∧ s.faults.HasC)
  raised : ∀ r ∈ b.raised, r.cls = .d
  faults : s.faults.ActiveFrom b.faults
  places : b.faults.records.length ≤ s.faults.records.length + 1

section
variable {s b t : Part} (h : s.RoundDue b)
include h

theorem Part.RoundDue.bank : b.bank = s.bank := congrArg (fun x : Tables => activeBank x.mem) h.tables

theorem Part.RoundDue.mode : b.seq.mode = s.seq.mode := by
  obtain ⟨n, hseq, -⟩ := h.seq
  rw [hseq]

theorem Part.RoundDue.seq_of_mode (hmode : s.seq.mode ≠ .inPattern) : b.seq = s.seq := by
  obtain ⟨n, hseq, rfl | ⟨hpattern, -⟩⟩ := h.seq
  · exact hseq
  · exact absurd hpattern hmode

theorem Part.RoundDue.trims {c : Change} {p : Pat} (hs : s.Trims c p) : b.Trims c p :=
  ⟨h.mode.trans hs.mode, hs.phase, hs.toPat, by rw [h.ramp, h.bank, h.tables]; exact hs.level⟩

theorem Part.RoundDue.awaits (hs : s.Awaits) : b.Awaits :=
  hs.imp h.mode.trans (Or.imp h.mode.trans fun ⟨c, p, hc⟩ => ⟨c, p, h.trims hc⟩)

theorem Part.RoundDue.meetsGrace (p : Pat) : b.MeetsGrace p ↔ s.MeetsGrace p := by
  obtain ⟨n, hseq, -⟩ := h.seq
  unfold Part.MeetsGrace
  rw [hseq, h.bank]

end

end Sys2Proof.Machine
end

section
/-! SUPPORT. What a completed round leaves at the end of its event, in each state. -/

namespace Sys2Proof.Machine

/-! ### What every completion leaves -/

/-- R66, R67: the part that a completion leaves, whatever its verdict. -/
structure Part.Completes (b p : Part) : Prop where
  table : p.table = b.judge.table
  round : p.round = { b.judge.round with coverage := [] }
  busy : b.stationBusy → p.stationBusy
  monitor : b.station.link.up = true → b.stationBusy → p.station.monitor = some b.judge.monitorFrame
  calm : b.Calm → p.Calm
  minor : (∀ r ∈ b.raised, r.cls = .d) → ∀ r ∈ p.raised, r.cls = .c ∨ r.cls = .d

theorem Part.Awaits.completeRound {b : Part} (h : b.Awaits) (hv : b.judge.round.last ≠ .noVerdict) :
    b.Completes b.completeRound := by
  obtain ⟨x, y, z, hx, hy, heq, hbusy, hmonitor⟩ := b.completeRound_eq
  rw [← hy] at hv
  have hjudged : (b.judgedAs x y z).Awaits :=
    h.imp id (Or.imp id fun ⟨c, p, hc⟩ => ⟨c, p, hc.mode, hc.phase, hc.toPat, hc.level⟩)
  have hanswers := (hjudged.sequencerVerdict_answers hv).trans (Part.trimVerdict_answers y.last _)
  rw [heq]
  refine ⟨hanswers.table.trans hx, ?_, fun hb => ?_, fun hup hb => hanswers.monitor.trans (hmonitor hup hb),
    fun hcalm => ?_, fun hd => hanswers.minor fun r hr => .inr (hd r hr)⟩
  · exact congrArg (fun x : VerdictUnit => { x with coverage := [] }) (hanswers.round.trans hy)
  · exact fun hnone => hbusy hb (hanswers.sending.symm.trans hnone)
  · have hcalm' := hanswers.calm ⟨hcalm.idle, hcalm.phase⟩
    exact ⟨hcalm'.idle, hcalm'.phase⟩

theorem Part.raise_raised_c (s : Part) (k : FaultKind) (o : FaultObject) : ∃ r ∈ (s.raise k o .c).raised, r.cls = .c :=
  ⟨_, List.mem_append_right s.raised (List.mem_singleton_self _), rfl⟩

theorem Part.orderRamp_seq (s : Part) (level : Nat) : (s.orderRamp level).seq = s.seq := rfl

theorem Part.orderRamp_raised (s : Part) (level : Nat) : (s.orderRamp level).raised = s.raised := rfl

theorem Part.orderRamp_inProgress (s : Part) (level : Nat) : (s.orderRamp level).ramp.inProgress = true := rfl

theorem Part.orderRamp_target (s : Part) (level : Nat) : (s.orderRamp level).ramp.target = min level s.licensedNow := rfl

section
variable {s b t : Part} (h : s.RoundDue b) (hend : b.completeRound.EndsIn t)
include h hend

/-! ### STOPPED (R68) -/

theorem Part.RoundDue.stopped (hmode : s.seq.mode = .stopped) : t.seq = s.seq := by
  have hbmode := h.mode.trans hmode
  obtain ⟨x, y, z, -, -, heq, -⟩ := b.completeRound_eq
  have hrest : (b.judgedAs x y z).AtRest := .inl hbmode
  rw [heq, Part.sequencerVerdict_rest hrest, Part.trimVerdict_rest hrest] at hend
  exact (hend.course h.raised).seq.trans (h.seq_of_mode (by rw [hmode]; nofun))

/-! ### IN_PATTERN (R69, R70, R95, R96, R133) -/

/-- R69, R70, R95: what an OUT_TOL verdict leaves in IN_PATTERN with TX_TRIP released. -/
structure Part.Fails (s t : Part) (p : Pat) : Prop where
  mode : t.seq.mode = s.seq.mode
  active : t.seq.active = s.seq.active
  slot : t.seq.slot = s.seq.slot
  ootRun : t.seq.ootRun = upTo 255 s.seq.ootRun
  restore : t.seq.restore = 0
  elems : t.elems = s.elems
  ootRaised : t.seq.ootRaised = true ↔ s.seq.ootRaised = true ∨ s.MeetsGrace p
  before : ¬s.MeetsGrace p → t.seq.sub = s.seq.sub ∧ t.ramp = s.ramp
  sub : s.MeetsGrace p → t.seq.sub = .degraded
  target : s.MeetsGrace p → s.seq.sub = .normal →
    t.ramp.target = min (s.bank.degradedLevel p) (s.tables.mem.licensedLevel p)
  raises : s.MeetsGrace p → s.faults.records.length ≤ 12 →
    (∀ x ∈ s.faults.records, ¬(x.active = true ∧ x.kind = .outOfTolerance ∧ x.object = .nothing)) →
    ∃ x ∈ t.faults.records, x.kind = .outOfTolerance ∧ x.cls = .c ∧ x.active = true

omit hend in
/-- R153, R154: a raise of OUT_OF_TOLERANCE has a place of its own. -/
theorem Part.RoundDue.room (hplaces : s.faults.records.length ≤ 12)
    (hnone : ∀ x ∈ s.faults.records, ¬(x.active = true ∧ x.kind = .outOfTolerance ∧ x.object = .nothing)) :
    b.room .outOfTolerance .nothing := by
  refine ⟨h.places.trans (Nat.succ_le_succ hplaces), fun x hx hmatch => ?_⟩
  obtain ⟨hactive, hkind, hobject⟩ := hmatch
  obtain ⟨y, hy, hyactive, hykind, hyobject, -⟩ := h.faults x hx hactive
  exact hnone y hy ⟨hyactive, hykind.trans hkind, hyobject.trans hobject⟩

theorem Part.RoundDue.fails {p : Pat} (hmode : s.seq.mode = .inPattern) (hactive : s.seq.active = some p)
    (htrip : s.lines.txTrip = false) (hlast : b.judge.round.last = .outTol) : s.Fails t p := by
  obtain ⟨x, y, z, -, hy, heq, -⟩ := b.completeRound_eq
  obtain ⟨n, hseq, -⟩ := h.seq
  have hmode' : (b.judgedAs x y z).seq.mode = .inPattern := h.mode.trans hmode
  have hactive' : (b.judgedAs x y z).seq.active = some p := (congrArg Sequencer.active hseq).trans hactive
  have htrip' : (b.judgedAs x y z).lines.txTrip = false := (congrArg Lines.txTrip h.lines).trans htrip
  have hlast' : y.last = .outTol := (congrArg VerdictUnit.last hy).trans hlast
  rw [hlast', Part.trimVerdict_of_ne Verdict.noConfusion, Part.sequencerVerdict_inPattern hmode' hactive'] at heq
  by_cases hgrace : s.MeetsGrace p
  · obtain ⟨u, hu⟩ : ∃ u, u = (b.judgedAs x y z).setSeq { (b.judgedAs x y z).seq with
        restore := 0, ootRun := upTo 255 (b.judgedAs x y z).seq.ootRun, ootRaised := true } := ⟨_, rfl⟩
    rw [Part.patternVerdict_outTol_grace htrip' ((h.meetsGrace p).mpr hgrace), ← hu] at heq
    rw [heq] at hend
    have huseq : u.seq = { s.seq with restore := 0, ootRun := upTo 255 s.seq.ootRun, ootRaised := true } :=
      (congrArg Part.seq hu).trans (congrArg (fun x : Sequencer =>
        { x with restore := 0, ootRun := upTo 255 x.ootRun, ootRaised := true }) hseq)
    have hmodeU : u.seq.mode = .inPattern := (congrArg Sequencer.mode huseq).trans hmode
    have hdegrades := hend.degrades hmodeU (u.raise_raised_c .outOfTolerance .nothing)
    have htseq : t.seq =
        { s.seq with sub := .degraded, restore := 0, ootRun := upTo 255 s.seq.ootRun, ootRaised := true } :=
      hdegrades.seq.trans (congrArg (fun x : Sequencer => { x with sub := .degraded, restore := 0 }) huseq)
    have helems : u.elems = s.elems := (congrArg Part.elems hu).trans h.elems
    have htables : u.tables = s.tables := (congrArg Part.tables hu).trans h.tables
    have hbank : u.bank = s.bank := congrArg (fun x : Tables => activeBank x.mem) htables
    have hfaults : u.faults = b.faults := (congrArg Part.faults hu).trans rfl
    refine ⟨by rw [htseq], by rw [htseq], by rw [htseq], by rw [htseq], by rw [htseq], hdegrades.elems.trans helems, ?_,
      fun hg => absurd hgrace hg, fun _ => by rw [htseq], fun _ hsub => ?_, fun _ hplaces hnone => ?_⟩
    · rw [htseq]
      exact iff_of_true rfl (.inr hgrace)
    · rw [← hbank, ← htables]
      exact hdegrades.target p ((congrArg Sequencer.active huseq).trans hactive)
        ((congrArg Sequencer.sub huseq).trans hsub)
    · have hroom : u.room .outOfTolerance .nothing := by
        rw [Part.room, hfaults]
        exact h.room hplaces hnone
      have hraise := congrArg Part.faults (Part.raise_eq hroom .c)
      have hrecorded : t.faults = (u.recorded .outOfTolerance .nothing .c).faults := hdegrades.faults.trans hraise
      rw [hrecorded]
      exact ⟨_, List.mem_append_right u.faults.records (List.mem_singleton_self _), rfl, rfl, rfl⟩
  · rw [Part.patternVerdict_outTol htrip' (mt (h.meetsGrace p).mp hgrace)] at heq
    rw [heq] at hend
    have hcourse := hend.course h.raised
    have htseq : t.seq = { s.seq with restore := 0, ootRun := upTo 255 s.seq.ootRun } :=
      hcourse.seq.trans (congrArg (fun x : Sequencer => { x with restore := 0, ootRun := upTo 255 x.ootRun }) hseq)
    refine ⟨by rw [htseq], by rw [htseq], by rw [htseq], by rw [htseq], by rw [htseq], hcourse.elems.trans h.elems, ?_,
      fun _ => ⟨by rw [htseq], hcourse.ramp.trans h.ramp⟩, fun hg => absurd hg hgrace, fun hg => absurd hg hgrace,
      fun hg => absurd hg hgrace⟩
    rw [htseq]
    exact (or_iff_left hgrace).symm

omit h hend in
theorem Part.Restores.congr {v : Part} {p : Pat} (hv : s.Restores v p) (hseq : t.seq = v.seq) (hramp : t.ramp = v.ramp)
    (hfaults : t.faults = v.faults) : s.Restores t p := by
  obtain ⟨hmode, hactive, hslot, hrun, hraised, hended, hnormal, hheld, hcounts⟩ := hv
  rw [← hseq] at hmode hactive hslot hrun hraised hnormal hheld hcounts
  rw [← hramp] at hnormal hheld hcounts
  rw [← hfaults] at hended hheld
  exact ⟨hmode, hactive, hslot, hrun, hraised, hended, hnormal, hheld, hcounts⟩

omit hend in
/-- R69, R70, R96: what is said of the part whose round completes is said of the part at the start of its event. -/
theorem Part.RoundDue.restores_of {x u : Part} {p : Pat} (hseq : x.seq = b.seq) (hramp : x.ramp = b.ramp)
    (hfaults : x.faults = b.faults) (htables : x.tables = b.tables) (hx : x.Restores u p) : s.Restores u p := by
  obtain ⟨n, hn, hcase⟩ := h.seq
  have hbank : x.bank = s.bank := congrArg (fun x : Tables => activeBank x.mem) (htables.trans h.tables)
  have hxseq := hseq.trans hn
  have hxramp := hramp.trans h.ramp
  have hsub : x.seq.sub = s.seq.sub := by rw [hxseq]
  refine ⟨hx.mode.trans (by rw [hxseq]), hx.active.trans (by rw [hxseq]), hx.slot.trans (by rw [hxseq]), hx.ootRun,
    hx.ootRaised, hx.ended, fun hnormal => ?_, fun hdegraded hc => ?_, fun hdegraded hc => ?_⟩
  · rw [← hxramp]
    exact hx.normal (hsub.trans hnormal)
  · rw [← hxramp]
    exact hx.held (hsub.trans hdegraded) hc
  · have hcounts := hx.counts (hsub.trans hdegraded) (by rw [hfaults]; exact mt h.faults.hasC hc)
    have hrestore : x.seq.restore = s.seq.restore := by
      rw [hxseq]
      exact hcase.elim id fun hother => absurd hother.2 hc
    rwa [hrestore, hxramp, hbank, htables, h.tables] at hcounts

theorem Part.RoundDue.restores {p : Pat} (hmode : s.seq.mode = .inPattern) (hactive : s.seq.active = some p)
    (htrip : s.lines.txTrip = false) (hlast : b.judge.round.last = .inTol) :
    s.Restores t p ∧ ∀ e : Elem, t.elems[e].trimCount =
      if s.bank.continuous p = true then 0 else s.elems[e].trimCount := by
  obtain ⟨x, y, z, -, hy, heq, -⟩ := b.completeRound_eq
  obtain ⟨n, hseq, -⟩ := h.seq
  have hmode' : (b.judgedAs x y z).seq.mode = .inPattern := h.mode.trans hmode
  have hactive' : (b.judgedAs x y z).seq.active = some p := (congrArg Sequencer.active hseq).trans hactive
  have htrip' : (b.judgedAs x y z).lines.txTrip = false := (congrArg Lines.txTrip h.lines).trans htrip
  have hlast' : y.last = .inTol := (congrArg VerdictUnit.last hy).trans hlast
  obtain ⟨hrestores, helems, hraised⟩ := Part.patternVerdict_inTol htrip' hmode' hactive'
  rw [hlast', Part.sequencerVerdict_inPattern hmode' hactive',
    Part.trimVerdict_inPattern (hrestores.mode.trans hmode') (hrestores.active.trans hactive')] at heq
  have htables := (Part.patternVerdict_answers .inTol p (b.judgedAs x y z)).tables
  generalize (b.judgedAs x y z).patternVerdict .inTol p = v at *
  have hbank : v.bank = s.bank := congrArg (fun x : Tables => activeBank x.mem) (htables.trans h.tables)
  have hrestores' := h.restores_of (x := b.judgedAs x y z) rfl rfl rfl rfl hrestores
  have hsame : ∀ w : Vector ElemRecord 40, (v.setElems w).abandonRound.EndsIn t → s.Restores t p ∧ t.elems = w := by
    intro w hw
    have hcourse := hw.course fun r hr => h.raised r (hraised ▸ hr)
    exact ⟨hrestores'.congr hcourse.seq hcourse.ramp hcourse.faults, hcourse.elems⟩
  rw [heq, hbank] at hend
  split at hend
  next hcontinuous =>
    obtain ⟨hrest, helem⟩ := hsame _ hend
    refine ⟨hrest, fun e => ?_⟩
    rw [if_pos hcontinuous, helem]
    exact v.budgetsFull_trimCount e
  next hcontinuous =>
    obtain ⟨hrest, helem⟩ := hsame v.elems hend
    have hkept : t.elems = s.elems := helem.trans (helems.trans h.elems)
    refine ⟨hrest, fun e => ?_⟩
    rw [if_neg hcontinuous, hkept]

/-! ### TRIMMING and VERIFYING (R84, R85) -/

omit hend in
/-- The change that a verdict leaves stands at the end of the event, and so does the ramp. -/
theorem Part.RoundDue.change_course {c : Change} {p : Pat} (hs : s.Trims c p) {u : Part} {c' : Change}
    (hend : u.abandonRound.EndsIn t) (huseq : u.seq = { b.seq with mode := .changing c' })
    (huraised : u.raised = b.raised) : t.seq = { s.seq with mode := .changing c' } ∧ t.ramp = u.ramp := by
  have hcourse := hend.course fun r hr => h.raised r (huraised ▸ hr)
  have hseq : b.seq = s.seq := h.seq_of_mode (by rw [hs.mode]; nofun)
  refine ⟨?_, hcourse.ramp⟩
  rw [← hseq, ← huseq]
  exact hcourse.seq

theorem Part.RoundDue.changes_outTol {c : Change} {p : Pat} (hs : s.Trims c p) (hlast : b.judge.round.last = .outTol) :
    t.seq = { s.seq with mode := .changing c.untrimmed } ∧ t.ramp = s.ramp := by
  obtain ⟨x, y, z, -, hy, heq, -⟩ := b.completeRound_eq
  have hlast' : y.last = .outTol := (congrArg VerdictUnit.last hy).trans hlast
  have hjudged : (b.judgedAs x y z).Trims c p := ⟨(h.trims hs).mode, hs.phase, hs.toPat, (h.trims hs).level⟩
  rw [heq, hlast', Part.trimVerdict_of_ne Verdict.noConfusion, hjudged.sequencerVerdict,
    hjudged.changeVerdict_outTol] at hend
  obtain ⟨htseq, hramp⟩ := h.change_course (c' := c.untrimmed) hs hend rfl rfl
  exact ⟨htseq, hramp.trans h.ramp⟩

theorem Part.RoundDue.changes_below {c : Change} {p : Pat} (hs : s.Trims c p) (hlast : b.judge.round.last = .inTol)
    (hrounds : c.verified < s.bank.verifyRounds p) :
    t.seq = { s.seq with mode := .changing c.verifies } ∧ t.ramp = s.ramp := by
  obtain ⟨x, y, z, -, hy, heq, -⟩ := b.completeRound_eq
  have hlast' : y.last = .inTol := (congrArg VerdictUnit.last hy).trans hlast
  have hjudged : (b.judgedAs x y z).Trims c p := ⟨(h.trims hs).mode, hs.phase, hs.toPat, (h.trims hs).level⟩
  have hrounds' : c.verified < (b.judgedAs x y z).bank.verifyRounds p :=
    hrounds.trans_eq (congrArg (·.verifyRounds p) h.bank.symm)
  rw [heq, hlast', hjudged.sequencerVerdict, hjudged.changeVerdict_inTol, hjudged.verifying_below hrounds',
    Part.trimVerdict_changing (c := c.verifies) rfl] at hend
  obtain ⟨htseq, hramp⟩ := h.change_course (c' := c.verifies) hs hend rfl rfl
  exact ⟨htseq, hramp.trans h.ramp⟩

theorem Part.RoundDue.changes_reaches {c : Change} {p : Pat} (hs : s.Trims c p) (hlast : b.judge.round.last = .inTol)
    (hrounds : s.bank.verifyRounds p ≤ c.verified) :
    t.seq = { s.seq with mode := .changing c.finishes } ∧ t.ramp.inProgress = true ∧
      t.ramp.target = min (s.bank.operatingLevel p) (s.tables.mem.licensedLevel p) := by
  obtain ⟨x, y, z, -, hy, heq, -⟩ := b.completeRound_eq
  have hlast' : y.last = .inTol := (congrArg VerdictUnit.last hy).trans hlast
  have hjudged : (b.judgedAs x y z).Trims c p := ⟨(h.trims hs).mode, hs.phase, hs.toPat, (h.trims hs).level⟩
  have hrounds' : (b.judgedAs x y z).bank.verifyRounds p ≤ c.verified :=
    (congrArg (·.verifyRounds p) h.bank).trans_le hrounds
  have hlicensed := hjudged.licensedNow
  rw [heq, hlast', hjudged.sequencerVerdict, hjudged.changeVerdict_inTol, hjudged.verifying_reaches hrounds',
    Part.trimVerdict_changing (c := c.finishes) rfl] at hend
  obtain ⟨htseq, hramp⟩ := h.change_course (c' := c.finishes) hs hend (Part.orderRamp_seq _ _)
    (Part.orderRamp_raised _ _)
  refine ⟨htseq, ?_, ?_⟩
  · rw [hramp, Part.orderRamp_inProgress]
  · rw [hramp, Part.orderRamp_target, hlicensed, ← h.bank, ← h.tables]
    rfl

end

end Sys2Proof.Machine
end

section
/-! SUPPORT. The SAMPLE whose block closes the last window of a round. -/

namespace Sys2Proof.Machine

/-! ### The frame's receipt (R164) -/

/-- R164, R155, R96: a valid frame at the Field Port ends no more than records, and with one of class C in IN_PATTERN sets
the restore count to 0. -/
theorem Part.linkAlive_field_eq (s : Part) : ∃ z u n,
    s.linkAlive .field = ((s.setField z).setFaults u).setSeq { s.seq with restore := n } ∧ s.faults.ActiveFrom u ∧
      u.records.length = s.faults.records.length ∧
      (n = s.seq.restore ∨ s.seq.mode = .inPattern ∧ s.faults.HasC) := by
  have hrefl := FaultUnit.ActiveFrom.refl s.faults
  unfold Part.linkAlive
  dsimp only
  split
  · exact ⟨{ s.field with link := { up := true, deadline := some (after s.uptime linkTimeout) } }, s.faults,
      s.seq.restore, rfl, hrefl, rfl, .inl rfl⟩
  · unfold Part.endCondition
    generalize ({ s.field with link := { up := true, deadline := some (after s.uptime linkTimeout) } } : FieldPort) = z
    have heq := Part.endRecords_eq (s.setField z) fun r => r.kind == .fieldLinkDown && r.object == .nothing
    have hfrom := Part.endRecords_activeFrom (s.setField z) fun r => r.kind == .fieldLinkDown && r.object == .nothing
    have hlength := Part.endRecords_length (s.setField z) fun r => r.kind == .fieldLinkDown && r.object == .nothing
    obtain hseq | ⟨hmode, hc, hseq⟩ := Part.endRecords_seq_of (s.setField z) fun r =>
      r.kind == .fieldLinkDown && r.object == .nothing
    · rw [hseq] at heq
      exact ⟨z, _, s.seq.restore, heq, hfrom, hlength, .inl rfl⟩
    · rw [hseq] at heq
      exact ⟨z, _, 0, heq, hfrom, hlength, .inr ⟨hmode, hc⟩⟩

/-! ### The window close (R44) -/

/-- R126: the Trim Engine has no entry of the tower. -/
def Part.Untrimmed (s : Part) (k : Tower) : Prop :=
  ∀ p, s.trimPattern = some p → ∀ x ∈ s.bank.actuatorEntries p, x.tower ≠ k

theorem Part.exhaust_nil (s : Part) : s.exhaust [] = s := by
  unfold Part.exhaust
  dsimp only
  split <;> rfl

theorem Part.trimClose_of_untrimmed {s : Part} {k : Tower} (h : s.Untrimmed k) : s.trimClose k = s := by
  unfold Part.trimClose
  split
  · rfl
  next p hp =>
    have hnone : (s.bank.actuatorEntries p).filter (fun a => a.tower == k) = [] :=
      List.filter_eq_nil_iff.mpr fun a ha => by
        rw [beq_iff_eq]
        exact h p hp a ha
    rw [hnone]
    exact s.exhaust_nil

/-- R151, R153: a class D raise that may be made takes no more than one place and makes no record ACTIVE. -/
theorem Part.raiseIf_d (s : Part) (b : Prop) [Decidable b] (k : FaultKind) (o : FaultObject) : ∃ u l,
    (if b then s.raise k o .d else s) = (s.setFaults u).setRaised (s.raised ++ l) ∧ (∀ r ∈ l, r.cls = .d) ∧
      s.faults.ActiveFrom u ∧ u.records.length ≤ s.faults.records.length + 1 := by
  split
  · have hfrom := s.faults.record_activeFrom s.uptime (r := s.newRecord k o .d s.situation s.changePats) rfl rfl
    have hlength := s.faults.record_length_le s.uptime (s.newRecord k o .d s.situation s.changePats)
    exact ⟨_, _, rfl, fun r hr => by rw [List.mem_singleton.mp hr], hfrom, hlength⟩
  · refine ⟨s.faults, [], ?_, List.forall_mem_nil _, FaultUnit.ActiveFrom.refl _, Nat.le_succ _⟩
    rw [List.append_nil]
    rfl

/-- R44, R49: the close of a window whose reading was not STALE, up to the cover of its tower. -/
theorem Part.closeWindow_fresh {s : Part} {k : Tower} (hstate : s.table.readings[k].state ≠ .stale)
    (htrim : s.Untrimmed k) : ∃ x u l c,
      s.closeWindow k = (((((s.setTable x).setFaults u).setRaised (s.raised ++ l)).setCorr c).cover k).testRound ∧
        c.config = s.corr.config ∧ (∀ r ∈ l, r.cls = .d) ∧ s.faults.ActiveFrom u ∧
        u.records.length ≤ s.faults.records.length + 1 := by
  obtain ⟨u, l, heq, hl, hfrom, hlength⟩ := (s.windowRead k).raiseIf_d
    ((s.closing k s.corr.accums[k]).state = .clipped) .clippedWindow (.tower k)
  have hopen : s.closeWindow k =
      (((((s.windowRead k).setFaults u).setRaised (s.raised ++ l)).setCorr
        { s.corr with accums := setAt s.corr.accums k Accum.clear }).trimClose k |>.cover k).testRound := by
    unfold Part.closeWindow
    dsimp only
    rw [if_neg hstate]
    exact congrArg (fun w : Part =>
      ((w.setCorr { w.corr with accums := setAt w.corr.accums k Accum.clear }).trimClose k |>.cover k).testRound) heq
  rw [Part.trimClose_of_untrimmed (by exact htrim)] at hopen
  exact ⟨_, u, l, _, hopen, rfl, hl, hfrom, hlength⟩

end Sys2Proof.Machine
end

section
/-! SUPPORT. The arrival that completes a round. -/

namespace Sys2Proof.Machine

theorem Part.actuatorMoving_of_idle {s : Part} (h : ∀ e : Elem, s.elems[e].command = none) : s.actuatorMoving = false :=
  List.any_eq_false.mpr fun e _ => by
    rw [ElemRecord.actuatorInFlight, h e]
    exact Bool.false_ne_true

/-- R65: every installed tower is covered, and no actuator command is in flight. -/
theorem Part.testRound_of_covered {s : Part} {k : Tower} (hk : s.bank.installed k = true)
    (hcover : ∀ j : Tower, s.bank.installed j = true → j ∈ s.round.coverage)
    (hidle : ∀ e : Elem, s.elems[e].command = none) : s.testRound = s.completeRound := by
  have hcount : 1 ≤ s.bank.towerCount := Nat.one_le_of_lt (decide_eq_true_iff.mp hk)
  have hall : s.bank.installedTowers.all (fun t => s.round.coverage.contains t) = true :=
    List.all_eq_true.mpr fun j hj => List.contains_iff_mem.mpr (hcover j (List.mem_filter.mp hj).2)
  have hcomplete : s.roundComplete = true := by
    rw [Part.roundComplete, hall, Part.actuatorMoving_of_idle hidle, decide_eq_true hcount]
    rfl
  exact if_pos hcomplete

/-- The frame's receipt leaves a round due as it was. -/
theorem Part.linkAlive_field_due (s : Part) : s.RoundDue ((s.setRaised []).linkAlive .field) ∧
    ((s.setRaised []).linkAlive .field).faults.records.length = s.faults.records.length ∧
    ((s.setRaised []).linkAlive .field).measured = s.measured ∧
    ((s.setRaised []).linkAlive .field).round = s.round := by
  obtain ⟨hmeasured, -⟩ := (s.setRaised []).linkAlive_field_rest
  obtain ⟨z, u, n, heq, hfrom, hlength, hn⟩ := (s.setRaised []).linkAlive_field_eq
  refine ⟨?_, ?_, hmeasured, ?_⟩
  · rw [heq]
    exact ⟨rfl, rfl, rfl, rfl, rfl, rfl, rfl, ⟨n, rfl, hn⟩, List.forall_mem_nil _, hfrom,
      hlength.trans_le (Nat.le_succ _)⟩
  · rw [heq]
    exact hlength
  · rw [heq]
    rfl

/-- A window close, with what it tells the Fault Unit and the cover of its tower, leaves a round due. -/
theorem Part.RoundDue.close {s p : Part} (h : s.RoundDue p)
    (hplaces : p.faults.records.length = s.faults.records.length) (k : Tower) (x : ReadingTable) {u : FaultUnit}
    {l : List Raised} {c : Correlator} (hc : c.config = p.corr.config) (hl : ∀ r ∈ l, r.cls = .d)
    (hfrom : p.faults.ActiveFrom u)
    (hlength : u.records.length ≤ p.faults.records.length + 1) :
    s.RoundDue (((((p.setTable x).setFaults u).setRaised (p.raised ++ l)).setCorr c).cover k) where
  tables := h.tables
  config := hc.trans h.config
  lines := h.lines
  elems := h.elems
  ramp := h.ramp
  station := h.station
  counter := h.counter
  seq := h.seq
  raised r hr := (List.mem_append.mp hr).elim (h.raised r) (hl r)
  faults := h.faults.trans hfrom
  places := hlength.trans_eq (congrArg (· + 1) hplaces)

/-- An entry rewritten and an addition made leave a round due. -/
theorem Part.RoundDue.added {s p : Part} (h : s.RoundDue p) (e e' : Entry) (k : Tower) (add : Accum → Accum) :
    s.RoundDue ((p.withEntry e e').accumulate k add) :=
  ⟨h.tables, h.config, h.lines, h.elems, h.ramp, h.station, h.counter, h.seq, h.raised, h.faults, h.places⟩

/-- R40, R44, R62, R65: an addition that fills the window of tower k, whose close covers the last installed tower. -/
theorem Part.RoundDue.addItem {s p : Part} (h : s.RoundDue p)
    (hplaces : p.faults.records.length = s.faults.records.length) {k : Tower} {e e' : Entry} {add : Accum → Accum}
    (hfull : 2 ^ p.corr.config.w ≤ (add p.corr.accums[k]).count) (hstate : p.table.readings[k].state ≠ .stale)
    (htrim : p.Untrimmed k) (hidle : ∀ e : Elem, s.elems[e].command = none) (hk : s.bank.installed k = true)
    (hcover : ∀ j : Tower, s.bank.installed j = true → j = k ∨ j ∈ p.round.coverage) :
    ∃ b, (p.withEntry e e').addItem k add = b.completeRound ∧ s.RoundDue b := by
  have hadded := h.added e e' k add
  obtain ⟨x, u, l, c, hclose, hc, hl, hfrom, hlength⟩ :=
    Part.closeWindow_fresh (s := (p.withEntry e e').accumulate k add) (k := k) hstate htrim
  have hdue := hadded.close hplaces k x hc hl hfrom hlength
  refine ⟨_, ?_, hdue⟩
  rw [Part.addItem_of_full (s := p.withEntry e e') hfull, hclose]
  refine Part.testRound_of_covered (k := k) (by rw [hdue.bank]; exact hk) (fun j hj => ?_) fun e => by
    rw [hdue.elems]
    exact hidle e
  rw [hdue.bank] at hj
  exact mem_addTower.mpr (hcover j hj)

/-- R62, R65: the arrival of the block that fills the window of tower k, whose close covers the last installed tower. -/
theorem Part.arrival_due {s : Part} {k : Tower} {payload : List Byte} {e : Entry} {r : Block}
    (hs : s.store.entries.Pairwise fun x y => x.index ≠ y.index) (he : e ∈ s.store.entries)
    (hindex : e.index = indexOf payload) (hr : e.refBlock = some r) (hepoch : e.epoch = true) (href : k ≠ e.refTower)
    (hhas : e.has k = false) (hfull : s.corr.accums[k].count + 1 = 2 ^ s.corr.config.w)
    (hstate : s.table.readings[k].state ≠ .stale) (htrim : s.Untrimmed k)
    (hidle : ∀ e : Elem, s.elems[e].command = none) (hk : s.bank.installed k = true)
    (hcover : ∀ j : Tower, s.bank.installed j = true → j = k ∨ j ∈ s.round.coverage) :
    ∃ b level x i, ((s.setRaised []).linkAlive .field).arrival k payload = (b.completeRound.weigh level k x).retire i ∧
      s.RoundDue b := by
  obtain ⟨hdue, hplaces, hmeasured, hround⟩ := s.linkAlive_field_due
  obtain ⟨hcorr, hreadings, -, -, -, hstore⟩ := Part.of_measured hmeasured
  generalize (s.setRaised []).linkAlive .field = p at *
  have hpattern : p.trimPattern = s.trimPattern := by
    obtain ⟨n, hseq, -⟩ := hdue.seq
    unfold Part.trimPattern
    rw [hseq]
  have harrive := Part.arrival_combined (s := p) (payload := payload) (by rwa [hstore]) (by rwa [hstore]) hindex hr href hhas
  rw [Part.combine_of_epoch (by rwa [hstore]) (by rwa [hstore]) hr hepoch] at harrive
  obtain ⟨b, hb, hbdue⟩ := hdue.addItem hplaces (e := e) (e' := e.join k)
    (add := fun a => a.addCross p.corr.config.s r (blockOf payload)) (by rw [hcorr]; exact hfull.ge)
    (by rwa [hreadings]) (fun q hq => by rw [hdue.bank]; exact htrim q (hpattern.symm.trans hq)) hidle hk
    (by rwa [hround])
  rw [hb] at harrive
  exact ⟨b, _, _, _, harrive, hbdue⟩

end Sys2Proof.Machine
end

section
/-! PROOFS. The window close that completes a round. -/

namespace Sys2Proof.Machine

/-! ### The MONITOR frame (R67, R188) -/

theorem Situation.stateCode_lt (x : Situation) : x.stateCode < 256 := by
  cases x <;> rw [Situation.stateCode] <;> omega

theorem Situation.phaseCode_lt (x : Situation) : x.phaseCode < 256 := by
  cases x with
  | stopped => decide
  | changing p => cases p <;> decide
  | inPattern sub => cases sub <;> decide
  | halted => decide

/-- R67: the values of the used report slots of a bank, in slot order. -/
def reportsOf (b : Bank) (v : Vector Reading 12) : List (List Byte) :=
  (List.range 16).filterMap fun i => v[b.reportTower i].report (b.reportQuantity i)

theorem Part.reports_eq (s : Part) : s.reports = reportsOf s.bank s.table.readings := rfl

/-- R188: the fields of a MONITOR frame of a verdict. -/
theorem Part.monitorFrame_fields {s : Part} (h : s.round.last ≠ .noVerdict) :
    let b := fun i => (s.monitorFrame.payload.getD i 0).toNat
    256 * b 0 + b 1 = s.round.counter.toNat ∧ b 2 = s.situation.stateCode ∧ b 3 = s.situation.phaseCode ∧
      b 4 = (match s.corr.config.source with | some p => p.val | none => 255) ∧ b 5 = s.round.last.code ∧
      (∀ j : Tower, (256 * b 6 + b 7).testBit j.val = decide (j ∈ s.round.failing)) ∧
      256 * b 8 + b 9 = s.ramp.level % 65536 ∧ b 10 = s.reports.length ∧
      s.monitorFrame.payload.drop 11 = s.reports.flatten := by
  intro b
  have hpayload := s.monitorFrame_payload
  have hcode : s.round.last.code < 256 := by cases s.round.last <;> decide
  have hreports := s.reports_length_le
  have hbyte : ∀ n : Nat, n < 256 → (BitVec.ofNat 8 n).toNat = n := fun n hn => by
    rw [BitVec.toNat_ofNat]
    exact Nat.mod_eq_of_lt hn
  dsimp only [b]
  rw [hpayload]
  refine ⟨(byte2_value _).trans (Nat.mod_eq_of_lt s.round.counter.isLt), hbyte _ (Situation.stateCode_lt _),
    hbyte _ (Situation.phaseCode_lt _),
    Part.monitorPat_toNat h, hbyte _ hcode, fun j => ?_, byte2_value _, hbyte _ (by omega), rfl⟩
  exact (congrArg (fun n => n.testBit j.val) (byte2_value _)).trans (towerBits_testBit _ j)

/-! ### The verdict (R66) -/

/-- R57: a judgement leaves what a test reads. -/
theorem Part.judge_passes (s : Part) (j : Tower) (x : TowerTarget) (isRef : Bool) :
    s.judge.table.readings[j].passes x isRef = s.table.readings[j].passes x isRef := by
  rw [(Part.judge_reading j s).1]
  rfl

/-- R67: the MONITOR frame tells the state of before the event. -/
theorem Part.RoundDue.situation {s b : Part} (h : s.RoundDue b) : b.judge.situation = s.situation := by
  obtain ⟨n, hseq, -⟩ := h.seq
  change b.situation = s.situation
  unfold Part.situation
  rw [hseq]

theorem Part.judge_last_ne {s : Part} {ts : Vector TowerTarget 12} (h : s.judgedBy = some ts) :
    s.judge.round.last ≠ .noVerdict := by
  rw [Part.judge_last h]
  split <;> exact Verdict.noConfusion

/-! ### The event -/

theorem Part.Awaits.calm {s : Part} (h : s.Awaits) (hidle : ∀ e : Elem, s.elems[e].command = none) : s.Calm := by
  refine ⟨hidle, fun c hc => ?_⟩
  obtain hmode | hmode | ⟨c', p, htrims⟩ := h
  · rw [hmode] at hc
    nomatch hc
  · rw [hmode] at hc
    nomatch hc
  · obtain rfl : c' = c := Mode.changing.inj (htrims.mode.symm.trans hc)
    obtain hphase | hphase := htrims.phase <;> rw [hphase] <;> exact ⟨Phase.noConfusion, Phase.noConfusion⟩

theorem Part.Awaits.not_halted {s : Part} (h : s.Awaits) : s.seq.mode ≠ .halted := by
  obtain hmode | hmode | ⟨c, p, htrims⟩ := h
  · rw [hmode]
    exact Mode.noConfusion
  · rw [hmode]
    exact Mode.noConfusion
  · rw [htrims.mode]
    exact Mode.noConfusion

/-- R62, R65, R66: the SAMPLE whose block completes a round, from its receipt to the end of its event. -/
theorem exec_sample_completes {src : Byte} {payload : List Byte} {k : Tower} {e : Entry} {r : Block}
    {ts : Vector TowerTarget 12} {s : State} (h : s.part.taking) (hlength : payload.length = 131)
    (hk : s.part.bank.towerOfNode src = some k) (hs : s.part.store.entries.Pairwise fun y z => y.index ≠ z.index)
    (he : e ∈ s.part.store.entries) (hindex : e.index = indexOf payload) (hr : e.refBlock = some r)
    (hepoch : e.epoch = true) (href : k ≠ e.refTower) (hhas : e.has k = false)
    (hfull : s.part.corr.accums[k].count + 1 = 2 ^ s.part.corr.config.w) (hts : s.part.corr.config.targets = some ts)
    (hstate : s.part.table.readings[k].state ≠ .stale) (htrim : s.part.Untrimmed k)
    (hidle : ∀ x : Elem, s.part.elems[x].command = none)
    (hcover : ∀ j : Tower, s.part.bank.installed j = true → j = k ∨ j ∈ s.part.round.coverage)
    (hawaits : s.part.Awaits) :
    ∃ t b, exec (.sampleArrival src payload) s = .next t ∧ t.pending = s.pending ∧ s.part.RoundDue b ∧
      b.judgedBy = some ts ∧ b.Completes b.completeRound ∧ b.completeRound.EndsIn t.part := by
  obtain ⟨b, level, x, i, harrive, hdue⟩ := Part.arrival_due hs he hindex hr hepoch href hhas hfull hstate htrim hidle
    (Bank.installed_of_towerOfNode hk) hcover
  have hbawaits := hdue.awaits hawaits
  have hby : b.judgedBy = some ts := Part.judgedBy_eq_some (by rw [hdue.config]; exact hts) hbawaits.not_halted
  have hcompletes := hbawaits.completeRound (Part.judge_last_ne hby)
  have hcalm := hcompletes.calm (hbawaits.calm fun e => by rw [hdue.elems]; exact hidle e)
  have hbank : ((s.part.setRaised []).linkAlive .field).bank = s.part.bank := s.part.linkAlive_field_due.1.bank
  exact ⟨_, b, exec_sampleArrival h, rfl, hdue, hby, hcompletes,
    Part.takeSample_endsIn (f := sampleFrame src payload) (by rw [hbank]; exact hk) hlength harrive hcalm
      (hcompletes.minor hdue.raised)⟩

/-- R67: the MONITOR frame of the round waits at the end of the event. -/
theorem Part.RoundDue.waits {s b t : Part} (h : s.RoundDue b) (hcompletes : b.Completes b.completeRound)
    (hend : b.completeRound.EndsIn t) (hup : s.station.link.up = true) (hbusy : s.stationBusy) :
    t.station.monitor = some b.judge.monitorFrame := by
  rw [Part.stationBusy, ← h.station] at hbusy
  rw [← h.station] at hup
  obtain ⟨-, -, hmonitor⟩ := hend.shown
  exact (hmonitor (hcompletes.busy hbusy)).trans (hcompletes.monitor hup hbusy)

/-- R68: no verdict in IN_PATTERN ends the pattern or empties the slot. -/
theorem Part.RoundDue.pattern_kept {s b t : Part} (h : s.RoundDue b) (hend : b.completeRound.EndsIn t) {p : Pat}
    (hmode : s.seq.mode = .inPattern) (hactive : s.seq.active = some p) (htrip : s.lines.txTrip = false)
    (hlast : b.judge.round.last = .inTol ∨ b.judge.round.last = .outTol) :
    t.seq.mode = .inPattern ∧ s.seq.active = t.seq.active ∧ s.seq.slot = t.seq.slot := by
  obtain hlast | hlast := hlast
  · have hrestores := (h.restores hend hmode hactive htrip hlast).1
    exact ⟨hrestores.mode.trans hmode, hrestores.active.symm, hrestores.slot.symm⟩
  · have hfails := h.fails hend hmode hactive htrip hlast
    exact ⟨hfails.mode.trans hmode, hfails.active.symm, hfails.slot.symm⟩

/-- R84, R85: a verdict in a change moves nothing of the sequencer but the change. -/
theorem Part.RoundDue.change_kept {s b t : Part} (h : s.RoundDue b) (hend : b.completeRound.EndsIn t) {c : Change}
    {p : Pat} (hs : s.Trims c p) (hlast : b.judge.round.last = .inTol ∨ b.judge.round.last = .outTol) :
    s.seq.active = t.seq.active ∧ s.seq.slot = t.seq.slot := by
  have hseq : ∃ c', t.seq = { s.seq with mode := .changing c' } := by
    obtain hlast | hlast := hlast
    · by_cases hrounds : s.bank.verifyRounds p ≤ c.verified
      · exact ⟨_, (h.changes_reaches hend hs hlast hrounds).1⟩
      · exact ⟨_, (h.changes_below hend hs hlast (not_le.mp hrounds)).1⟩
    · exact ⟨_, (h.changes_outTol hend hs hlast).1⟩
  obtain ⟨c', hseq⟩ := hseq
  rw [hseq]
  exact ⟨rfl, rfl⟩

/-- Settles O23: the arrival comes to a round that is due; its verdict is read off the judged readings, and the course of
each state follows from what the verdict makes of the sequencer and the one class C reaction the event may owe. -/
theorem roundCompletionActsOnTheVerdict : Obligations.RoundCompletionActsOnTheVerdict := by
  intro src payload k e r ts s h hlength hk hs he hindex hr hepoch href hheld hcombined hfull hts hstate htrim hidle hcover
    hmode
  have hawaits : s.part.Awaits :=
    hmode.imp id (Or.imp id fun ⟨c, p, hc, hphase, hto, hlevel⟩ => ⟨c, p, hc, hphase, hto, hlevel⟩)
  obtain ⟨t, b, hexec, hpending, hdue, hby, hcompletes, hend⟩ := exec_sample_completes h hlength hk hs he hindex hr hepoch
    href (Entry.has_eq_false (absurd · href) hheld hcombined) hfull hts hstate htrim hidle hcover hawaits
  obtain ⟨hreadings, hround, -⟩ := hend.shown
  rw [hcompletes.table] at hreadings
  rw [hcompletes.round] at hround
  obtain ⟨hlastIn, hlastOut⟩ := Part.judge_last_iff hby
  refine ⟨t, hexec, hpending, ?_⟩
  intro passes inTol kept classC
  have hpasses : ∀ j : Tower,
      passes j = b.table.readings[j].passes ts[j] (decide (j = b.corr.config.refTower)) := fun j => by
    rw [hdue.config, ← Part.judge_passes, ← hreadings]
  have hinTol : inTol ↔ (b.failingTowers ts).isEmpty = true := by
    rw [Part.failingTowers_isEmpty, hdue.bank]
    exact forall_congr' fun j => by rw [hpasses]
  rw [← hinTol] at hlastIn hlastOut
  have hlast : b.judge.round.last = .inTol ∨ b.judge.round.last = .outTol :=
    (Classical.em inTol).imp hlastIn.mpr hlastOut.mpr
  have hfailing : ∀ j : Tower, j ∈ t.part.round.failing ↔ s.part.bank.installed j = true ∧ passes j = false := fun j => by
    rw [hround, Part.judge_failing hby, Part.mem_failingTowers, hpasses, hdue.bank]
  refine ⟨?_, ?_, fun hin => ?_, fun hout => ?_, hfailing, fun j hj => ?_, fun hup hbusy => ?_, hdue.stopped hend,
    fun p hpattern hactive htrip => ?_, fun c p hc hto => ?_⟩
  · rw [hround, ← hdue.counter]
    rfl
  · rw [hround]
  · rw [hround]
    exact hlastIn.mpr hin
  · rw [hround]
    exact hlastOut.mpr hout
  · rw [hreadings, hpasses]
    exact Part.judge_inTol hby (by rw [hdue.bank]; exact hj)
  · obtain ⟨hcounter, hstateByte, hphaseByte, hpat, hcode, hbits, hlevel, hcount, hdrop⟩ :=
      Part.monitorFrame_fields (Part.judge_last_ne hby)
    refine ⟨b.judge.monitorFrame, hdue.waits hcompletes hend hup hbusy, rfl, rfl, rfl, ?_⟩
    intro byte
    refine ⟨hcounter.trans ?_, ?_, hpat.trans ?_, fun hin => ?_, fun hout => ?_, fun j => ?_, hlevel.trans ?_, ?_⟩
    · rw [← hdue.counter]
      rfl
    · refine (Prod.ext hstateByte hphaseByte : (byte 2, byte 3) = (_, _)).trans ?_
      rw [hdue.situation]
      unfold Part.situation
      obtain hm | hm | ⟨c, p, hm, hphase, -⟩ := hmode
      · rw [hm]
      · rw [hm]
        cases s.part.seq.sub <;> rfl
      · rw [hm]
        obtain hphase | hphase := hphase <;> dsimp only <;> rw [hphase] <;> rfl
    · have hsource : b.judge.corr.config.source = s.part.corr.config.source := congrArg (·.source) hdue.config
      exact congrArg (fun o : Option Pat => match o with | some p => p.val | none => 255) hsource
    · exact hcode.trans (by rw [hlastIn.mpr hin]; rfl)
    · exact hcode.trans (by rw [hlastOut.mpr hout]; rfl)
    · refine (hbits j).trans ?_
      rw [hround]
    · rw [← hdue.ramp]
      rfl
    · intro reports
      have hreports : reports = b.judge.reports := by
        have hbank : b.judge.bank = s.part.bank := hdue.bank
        rw [Part.reports_eq, hbank, ← hreadings]
        refine congrArg (fun f => List.filterMap f (List.range 16)) (funext fun i => ?_)
        unfold Reading.report
        dsimp only
        split
        · rfl
        · rfl
        · cases t.part.table.readings[s.part.bank.reportTower i].state <;> rfl
        · rfl
      rw [hreports]
      exact ⟨hcount, hdrop⟩
  · obtain ⟨hmode', hkept⟩ := hdue.pattern_kept hend hpattern hactive htrip hlast
    refine ⟨hmode', hkept, fun hout => ?_, fun hin => ?_⟩
    · have hfails := hdue.fails hend hpattern hactive htrip (hlastOut.mpr hout)
      refine ⟨hfails.ootRun, hfails.restore, fun x => by rw [hfails.elems], ?_⟩
      exact ⟨hfails.ootRaised, hfails.before, fun hgrace => ⟨hfails.sub hgrace, hfails.target hgrace, hfails.raises hgrace⟩⟩
    · obtain ⟨hrestores, htrims⟩ := hdue.restores hend hpattern hactive htrip (hlastIn.mpr hin)
      exact ⟨hrestores.ootRun, hrestores.ootRaised, hrestores.ended, htrims, hrestores.normal, hrestores.held,
        hrestores.counts⟩
  · intro n
    have htrims : s.part.Trims c p := by
      obtain hm | hm | ⟨c', p', hm, hphase, hto', hlevel⟩ := hmode
      · nomatch hm.symm.trans hc
      · nomatch hm.symm.trans hc
      · obtain rfl : c' = c := Mode.changing.inj (hm.symm.trans hc)
        obtain rfl : p' = p := Option.some.inj (hto'.symm.trans hto)
        exact ⟨hm, hphase, hto, hlevel⟩
    refine ⟨hdue.change_kept hend htrims hlast, fun hout => ?_, fun hin hrounds => ?_, fun hin hrounds => ?_⟩
    · obtain ⟨hseq, hramp⟩ := hdue.changes_outTol hend htrims (hlastOut.mpr hout)
      exact ⟨congrArg Sequencer.mode hseq, hramp⟩
    · obtain ⟨hseq, hramp⟩ := hdue.changes_below hend htrims (hlastIn.mpr hin) hrounds
      exact ⟨congrArg Sequencer.mode hseq, hramp⟩
    · obtain ⟨hseq, hramp⟩ := hdue.changes_reaches hend htrims (hlastIn.mpr hin) hrounds
      exact ⟨congrArg Sequencer.mode hseq, hramp⟩

end Sys2Proof.Machine
end
